-- ==== Sys2Proof/Word.lean ====
section
/-! DEFINITION. The words of the block: 32-bit registers and addresses, 16-bit PHY registers and
descriptor fields, bytes (00_scope.md R7, R9). -/

namespace Sys2Proof

/-- A 32-bit register, guest address or ring cursor (R7 `REG_WIDTH`, `ADDR_WIDTH`). -/
abbrev Word := BitVec 32

/-- A 16-bit PHY register, or the `flags` or `length` field of a descriptor (R7, R170). -/
abbrev Half := BitVec 16

/-- A byte of memory or of a frame (R9). -/
abbrev Byte := BitVec 8

end Sys2Proof
end

