-- ==== Sys2Proof/Config.lean ====
section
/-! DEFINITION. What the spec fixes for every block (00_scope.md R7), the construction parameters it
leaves open (R8), and the values it leaves free: the receive trailer's draw (43_receive.md R202) and
the two vendor functions of the PHY (44_mdio_phy.md R244, R245). -/

namespace Sys2Proof

/-- The descriptor byte order `dev_endian` (20_memory.md R67). -/
inductive Endian where
  | big
  | little
  deriving DecidableEq, Repr

/-- The six bytes `mac[0]`..`mac[5]` of the station address (10_state.md R35). -/
structure Mac where
  b0 : Byte
  b1 : Byte
  b2 : Byte
  b3 : Byte
  b4 : Byte
  b5 : Byte
  deriving DecidableEq, Repr

/-- The 4 bytes `t0 t1 t2 t3` of a receive trailer (43_receive.md R202). -/
structure Trailer where
  t0 : Byte
  t1 : Byte
  t2 : Byte
  t3 : Byte
  deriving DecidableEq, Repr, Inhabited

/-- The trailer as the byte list `T` of R205. -/
def Trailer.bytes (t : Trailer) : List Byte := [t.t0, t.t1, t.t2, t.t3]

/-- The parameters of R8, the operand of `CONSTRUCT` (70_reset_and_hazards.md R300).
`phyRegReset` is the function `phy_reg_reset` written as its 32 values. `diag` names which pair of
the open functions `phy_diag17`, `phy_diag18` the block is built with (log 4). `rx_trailer` is no
field: it is drawn once per received frame (log 3). -/
structure Params where
  devEndian         : Endian
  windowBase        : Word
  phyAddr           : BitVec 5
  phyAttached       : Bool
  linkUpInit        : Bool
  mac0              : Mac
  ringBaseMask      : Word
  mdioDivisorMask   : Word
  tdarRequiresBit24 : Bool
  phyRegReset       : Vector Half 32
  phyStatusUp       : Half
  phyStatusDown     : Half
  diag              : Nat
  maxDescPerPass    : Option Nat
  fullSoftReset     : Bool
  deriving DecidableEq, Repr

namespace Config

/-- `FRAME_CAP`: the hard cap of the frame accumulation buffer, in bytes (R7). -/
def frameCap : Nat := 2032

/-- The most slots one pass can fetch, for any `ring_base_mask`: 2^32 + 1 (42_transmit.md R188).
It bounds the recursion of a pass and cuts none short (log 14). -/
def visitLimit : Nat := 4294967297

/-- FREE VALUE: the draw `rx_trailer`, 4 bytes per received frame, under no law (R8, R202; log 3). -/
opaque rxTrailer : Nat → Trailer

/-- FREE VALUE: the open parameter `phy_diag17` (R8, R244), one function for each index (log 4). -/
opaque phyDiag17 : Nat → Half → Half

/-- FREE VALUE: the open parameter `phy_diag18` (R8, R245), one function for each index (log 4). -/
opaque phyDiag18 : Nat → Half → Half

/-- The parameters of the block that `State.reset` holds: the defaults of R8 (log 6) and, for the
parameters R8 leaves OPEN, the values of the start state S0 of 95_test_vectors.md where it gives
one: `phy_addr` = 1 and `mac0` = 52:54:00:12:34:56; `window_base` and `diag` are 0.
DESIGN CHOICE (log 5), unsafe. -/
def defaultParams : Params where
  devEndian := .big
  windowBase := 0x00000000
  phyAddr := 1
  phyAttached := true
  linkUpInit := true
  mac0 := ⟨0x52, 0x54, 0x00, 0x12, 0x34, 0x56⟩
  ringBaseMask := 0xFFFFFFF8
  mdioDivisorMask := 0x0000007E
  tdarRequiresBit24 := false
  phyRegReset := Vector.replicate 32 0x0000
  phyStatusUp := 0x002C
  phyStatusDown := 0x0000
  diag := 0
  maxDescPerPass := none
  fullSoftReset := true

end Config

end Sys2Proof
end

