-- ==== Sys2Proof/Syntax.lean ====
section
/-! DEFINITION. The operations of the block, one constructor for each row of spec/opcode_table.json
(30_encoding.md R80), the requests that encode them, and the events of its environment. -/

namespace Sys2Proof

/-- The operations of the block. Read operations carry no operand; a bus write carries its 32-bit
value `v`, a PHY write its 16-bit value `data`, a management frame the fields of R84, and a host
event the operand of R93. -/
inductive Instr where
  -- the register window (40_register_file.md)
  | eirRd
  | eirWr (v : Word)
  | eimrRd
  | eimrWr (v : Word)
  | rdarRd
  | rdarWr (v : Word)
  | tdarRd
  | tdarWr (v : Word)
  | ecrRd
  | ecrWr (v : Word)
  | mmfrRd
  | mmfrWr (v : Word)
  | mscrRd
  | mscrWr (v : Word)
  | mibcRd
  | mibcWr (v : Word)
  | rcrRd
  | rcrWr (v : Word)
  | tcrRd
  | tcrWr (v : Word)
  | palrRd
  | palrWr (v : Word)
  | paurRd
  | paurWr (v : Word)
  | opdRd
  | opdWr (v : Word)
  | iaurRd
  | iaurWr (v : Word)
  | ialrRd
  | ialrWr (v : Word)
  | gaurRd
  | gaurWr (v : Word)
  | galrRd
  | galrWr (v : Word)
  | tfwrRd
  | tfwrWr (v : Word)
  | frbrRd
  | frbrWr (v : Word)
  | rfsrRd
  | rfsrWr (v : Word)
  | erdsrRd
  | erdsrWr (v : Word)
  | etdsrRd
  | etdsrWr (v : Word)
  | emrbrRd
  | emrbrWr (v : Word)
  | mib0Rd
  | mib0Wr (v : Word)
  | mib1Rd
  | mib1Wr (v : Word)
  | mib2Rd
  | mib2Wr (v : Word)
  | mib3Rd
  | mib3Wr (v : Word)
  | mib4Rd
  | mib4Wr (v : Word)
  | mib5Rd
  | mib5Wr (v : Word)
  | mib6Rd
  | mib6Wr (v : Word)
  | mib7Rd
  | mib7Wr (v : Word)
  | mib8Rd
  | mib8Wr (v : Word)
  | mib9Rd
  | mib9Wr (v : Word)
  | mib10Rd
  | mib10Wr (v : Word)
  | mib11Rd
  | mib11Wr (v : Word)
  | mib12Rd
  | mib12Wr (v : Word)
  | mib13Rd
  | mib13Wr (v : Word)
  | mib14Rd
  | mib14Wr (v : Word)
  | mib15Rd
  | mib15Wr (v : Word)
  | mib16Rd
  | mib16Wr (v : Word)
  | mib17Rd
  | mib17Wr (v : Word)
  | mib18Rd
  | mib18Wr (v : Word)
  | mib19Rd
  | mib19Wr (v : Word)
  | mib20Rd
  | mib20Wr (v : Word)
  | mib21Rd
  | mib21Wr (v : Word)
  | mib22Rd
  | mib22Wr (v : Word)
  | mib23Rd
  | mib23Wr (v : Word)
  | mib24Rd
  | mib24Wr (v : Word)
  | mib25Rd
  | mib25Wr (v : Word)
  | mib26Rd
  | mib26Wr (v : Word)
  | mib27Rd
  | mib27Wr (v : Word)
  | mib28Rd
  | mib28Wr (v : Word)
  | mib29Rd
  | mib29Wr (v : Word)
  | mib30Rd
  | mib30Wr (v : Word)
  | mib31Rd
  | mib31Wr (v : Word)
  | mib32Rd
  | mib32Wr (v : Word)
  | mib33Rd
  | mib33Wr (v : Word)
  | mib34Rd
  | mib34Wr (v : Word)
  | mib35Rd
  | mib35Wr (v : Word)
  | mib36Rd
  | mib36Wr (v : Word)
  | mib37Rd
  | mib37Wr (v : Word)
  | mib38Rd
  | mib38Wr (v : Word)
  | mib39Rd
  | mib39Wr (v : Word)
  | mib40Rd
  | mib40Wr (v : Word)
  | mib41Rd
  | mib41Wr (v : Word)
  | mib42Rd
  | mib42Wr (v : Word)
  | mib43Rd
  | mib43Wr (v : Word)
  | mib44Rd
  | mib44Wr (v : Word)
  | mib45Rd
  | mib45Wr (v : Word)
  | mib46Rd
  | mib46Wr (v : Word)
  | mib47Rd
  | mib47Wr (v : Word)
  | mib48Rd
  | mib48Wr (v : Word)
  | mib49Rd
  | mib49Wr (v : Word)
  | mib50Rd
  | mib50Wr (v : Word)
  | mib51Rd
  | mib51Wr (v : Word)
  | mib52Rd
  | mib52Wr (v : Word)
  | mib53Rd
  | mib53Wr (v : Word)
  | mib54Rd
  | mib54Wr (v : Word)
  | mib55Rd
  | mib55Wr (v : Word)
  | mib56Rd
  | mib56Wr (v : Word)
  | gask0Rd
  | gask0Wr (v : Word)
  | gask1Rd
  | gask1Wr (v : Word)
  -- the management frame (44_mdio_phy.md R233 to R237)
  | mdioInvalid0 (st : BitVec 2) (pa ra : BitVec 5) (ta : BitVec 2) (data : Half)
  | mdioWrite (st : BitVec 2) (pa ra : BitVec 5) (ta : BitVec 2) (data : Half)
  | mdioRead (st : BitVec 2) (pa ra : BitVec 5) (ta : BitVec 2) (data : Half)
  | mdioInvalid3 (st : BitVec 2) (pa ra : BitVec 5) (ta : BitVec 2) (data : Half)
  -- the PHY registers (44_mdio_phy.md R239 to R246)
  | phyRd0
  | phyRd1
  | phyRd2
  | phyRd3
  | phyRd4
  | phyRd5
  | phyRd6
  | phyRd7
  | phyRd8
  | phyRd9
  | phyRd10
  | phyRd11
  | phyRd12
  | phyRd13
  | phyRd14
  | phyRd15
  | phyRd16
  | phyRd17
  | phyRd18
  | phyRd19
  | phyRd20
  | phyRd21
  | phyRd22
  | phyRd23
  | phyRd24
  | phyRd25
  | phyRd26
  | phyRd27
  | phyRd28
  | phyRd29
  | phyRd30
  | phyRd31
  | phyWr0 (data : Half)
  | phyWr1 (data : Half)
  | phyWr2 (data : Half)
  | phyWr3 (data : Half)
  | phyWr4 (data : Half)
  | phyWr5 (data : Half)
  | phyWr6 (data : Half)
  | phyWr7 (data : Half)
  | phyWr8 (data : Half)
  | phyWr9 (data : Half)
  | phyWr10 (data : Half)
  | phyWr11 (data : Half)
  | phyWr12 (data : Half)
  | phyWr13 (data : Half)
  | phyWr14 (data : Half)
  | phyWr15 (data : Half)
  | phyWr16 (data : Half)
  | phyWr17 (data : Half)
  | phyWr18 (data : Half)
  | phyWr19 (data : Half)
  | phyWr20 (data : Half)
  | phyWr21 (data : Half)
  | phyWr22 (data : Half)
  | phyWr23 (data : Half)
  | phyWr24 (data : Half)
  | phyWr25 (data : Half)
  | phyWr26 (data : Half)
  | phyWr27 (data : Half)
  | phyWr28 (data : Half)
  | phyWr29 (data : Half)
  | phyWr30 (data : Half)
  | phyWr31 (data : Half)
  -- the host events (30_encoding.md R93)
  | construct (p : Params)
  | canReceive
  | receive (frame : List Byte) (draw : Option Trailer)
  | setLink (b : Bool)
  deriving DecidableEq, Repr

/-- The operand that comes with a host event code (R93). In `frame`, `draw` is the 4 trailer bytes
the environment fixes for this frame (the `T` of 95_test_vectors.md), or `none` where they are drawn
from `Config.rxTrailer` (R202; log 3). -/
inductive HostOperand where
  | nothing
  | params (p : Params)
  | frame (bytes : List Byte) (draw : Option Trailer)
  | link (b : Bool)
  deriving DecidableEq, Repr

/-- A request in one of the operation formats of R80, undecoded. `bus` carries the access width in
bits, the 11-bit command of R81 and the data operand, which a read does not use. -/
inductive Request where
  | bus (width : Nat) (cmd : BitVec 11) (v : Word)
  | mmfr (frame : Word)
  | phy (cmd : BitVec 6) (data : Half)
  | host (code : BitVec 3) (operand : HostOperand)
  deriving DecidableEq, Repr

/-- The record of a configuration error (10_state.md R47, 60_exceptions.md R271, R272). -/
inductive FatalRecord where
  /-- `Fatal(UNKNOWN_OFFSET, off)`: a 32-bit aligned access of an offset with no register; for a
  write the value is recorded too (R271). -/
  | unknownOffset (off : BitVec 10) (value : Option Word)
  /-- `Fatal(BAD_ACCESS, off)`: an access of another width, or at an offset that is not a multiple
  of 4 (R272). -/
  | badAccess (off : BitVec 10)
  /-- `Fatal(BAD_ACCESS, code)` for a host request outside the forms of R93, as 00_scope.md R13 says
  of every input outside the admitted forms (log 9). -/
  | badEvent (code : BitVec 3)
  deriving DecidableEq, Repr

/-- What the decoder answers: an operation, or the configuration error that the request is. -/
inductive Decoded where
  | instr (i : Instr)
  | rejected (r : FatalRecord)
  deriving DecidableEq, Repr

/-- One external event (20_memory.md R73): a request to the block, or an access of the bus master
to guest memory, which is no operation of the block (R60, 30_encoding.md R94 `M`; log 21). -/
inductive Event where
  | op (r : Request)
  | store (a : Word) (bytes : List Byte)
  | load (a : Word) (n : Nat)
  deriving DecidableEq, Repr

end Sys2Proof
end

