-- ==== Sys2Proof/WellFormed.lean ====
section
/-! DEFINITION. The forms the spec admits. The widths of R84, R89 and R93 are in the types of the
operands; what is left is the range R8 gives `max_desc_per_pass`. -/

namespace Sys2Proof

/-- `max_desc_per_pass` is none or a positive count (00_scope.md R8). -/
def Params.wf (p : Params) : Bool := p.maxDescPerPass != some 0

/-- The operands of an operation are in the range the spec gives them. -/
def Instr.wf : Instr → Bool
  | .construct p => p.wf
  | .eirRd | .eirWr _ | .eimrRd | .eimrWr _ | .rdarRd | .rdarWr _
  | .tdarRd | .tdarWr _ | .ecrRd | .ecrWr _ | .mmfrRd | .mmfrWr _
  | .mscrRd | .mscrWr _ | .mibcRd | .mibcWr _ | .rcrRd | .rcrWr _
  | .tcrRd | .tcrWr _ | .palrRd | .palrWr _ | .paurRd | .paurWr _
  | .opdRd | .opdWr _ | .iaurRd | .iaurWr _ | .ialrRd | .ialrWr _
  | .gaurRd | .gaurWr _ | .galrRd | .galrWr _ | .tfwrRd | .tfwrWr _
  | .frbrRd | .frbrWr _ | .rfsrRd | .rfsrWr _ | .erdsrRd | .erdsrWr _
  | .etdsrRd | .etdsrWr _ | .emrbrRd | .emrbrWr _ | .mib0Rd | .mib0Wr _
  | .mib1Rd | .mib1Wr _ | .mib2Rd | .mib2Wr _ | .mib3Rd | .mib3Wr _
  | .mib4Rd | .mib4Wr _ | .mib5Rd | .mib5Wr _ | .mib6Rd | .mib6Wr _
  | .mib7Rd | .mib7Wr _ | .mib8Rd | .mib8Wr _ | .mib9Rd | .mib9Wr _
  | .mib10Rd | .mib10Wr _ | .mib11Rd | .mib11Wr _ | .mib12Rd | .mib12Wr _
  | .mib13Rd | .mib13Wr _ | .mib14Rd | .mib14Wr _ | .mib15Rd | .mib15Wr _
  | .mib16Rd | .mib16Wr _ | .mib17Rd | .mib17Wr _ | .mib18Rd | .mib18Wr _
  | .mib19Rd | .mib19Wr _ | .mib20Rd | .mib20Wr _ | .mib21Rd | .mib21Wr _
  | .mib22Rd | .mib22Wr _ | .mib23Rd | .mib23Wr _ | .mib24Rd | .mib24Wr _
  | .mib25Rd | .mib25Wr _ | .mib26Rd | .mib26Wr _ | .mib27Rd | .mib27Wr _
  | .mib28Rd | .mib28Wr _ | .mib29Rd | .mib29Wr _ | .mib30Rd | .mib30Wr _
  | .mib31Rd | .mib31Wr _ | .mib32Rd | .mib32Wr _ | .mib33Rd | .mib33Wr _
  | .mib34Rd | .mib34Wr _ | .mib35Rd | .mib35Wr _ | .mib36Rd | .mib36Wr _
  | .mib37Rd | .mib37Wr _ | .mib38Rd | .mib38Wr _ | .mib39Rd | .mib39Wr _
  | .mib40Rd | .mib40Wr _ | .mib41Rd | .mib41Wr _ | .mib42Rd | .mib42Wr _
  | .mib43Rd | .mib43Wr _ | .mib44Rd | .mib44Wr _ | .mib45Rd | .mib45Wr _
  | .mib46Rd | .mib46Wr _ | .mib47Rd | .mib47Wr _ | .mib48Rd | .mib48Wr _
  | .mib49Rd | .mib49Wr _ | .mib50Rd | .mib50Wr _ | .mib51Rd | .mib51Wr _
  | .mib52Rd | .mib52Wr _ | .mib53Rd | .mib53Wr _ | .mib54Rd | .mib54Wr _
  | .mib55Rd | .mib55Wr _ | .mib56Rd | .mib56Wr _ | .gask0Rd | .gask0Wr _
  | .gask1Rd | .gask1Wr _ | .mdioInvalid0 _ _ _ _ _ | .mdioWrite _ _ _ _ _ | .mdioRead _ _ _ _ _ | .mdioInvalid3 _ _ _ _ _
  | .phyRd0 | .phyRd1 | .phyRd2 | .phyRd3 | .phyRd4 | .phyRd5
  | .phyRd6 | .phyRd7 | .phyRd8 | .phyRd9 | .phyRd10 | .phyRd11
  | .phyRd12 | .phyRd13 | .phyRd14 | .phyRd15 | .phyRd16 | .phyRd17
  | .phyRd18 | .phyRd19 | .phyRd20 | .phyRd21 | .phyRd22 | .phyRd23
  | .phyRd24 | .phyRd25 | .phyRd26 | .phyRd27 | .phyRd28 | .phyRd29
  | .phyRd30 | .phyRd31 | .phyWr0 _ | .phyWr1 _ | .phyWr2 _ | .phyWr3 _
  | .phyWr4 _ | .phyWr5 _ | .phyWr6 _ | .phyWr7 _ | .phyWr8 _ | .phyWr9 _
  | .phyWr10 _ | .phyWr11 _ | .phyWr12 _ | .phyWr13 _ | .phyWr14 _ | .phyWr15 _
  | .phyWr16 _ | .phyWr17 _ | .phyWr18 _ | .phyWr19 _ | .phyWr20 _ | .phyWr21 _
  | .phyWr22 _ | .phyWr23 _ | .phyWr24 _ | .phyWr25 _ | .phyWr26 _ | .phyWr27 _
  | .phyWr28 _ | .phyWr29 _ | .phyWr30 _ | .phyWr31 _ | .canReceive | .receive _ _
  | .setLink _ => true

end Sys2Proof
end

