-- ==== Sys2Proof/Decode.lean ====
section
/-! DEFINITION. The decoder of the operation formats (30_encoding.md R80 to R93), rejecting by name,
and after it the encoder, written from the same tables. -/

namespace Sys2Proof

/-- The first entry of a table under the key `k`. -/
def lookup {α : Type} (k : Nat) : List (Nat × α) → Option α
  | [] => none
  | (k', a) :: t => if k = k' then some a else lookup k t

/-! ### The register map (R82) -/

/-- The read operation of each offset of R82 but the MIB words. -/
def plainReads : List (Nat × Instr) :=
    [(0x004, .eirRd), (0x008, .eimrRd), (0x010, .rdarRd), (0x014, .tdarRd), (0x024, .ecrRd),
     (0x040, .mmfrRd), (0x044, .mscrRd), (0x064, .mibcRd), (0x084, .rcrRd), (0x0C4, .tcrRd),
     (0x0E4, .palrRd), (0x0E8, .paurRd), (0x0EC, .opdRd), (0x118, .iaurRd), (0x11C, .ialrRd),
     (0x120, .gaurRd), (0x124, .galrRd), (0x144, .tfwrRd), (0x14C, .frbrRd), (0x150, .rfsrRd),
     (0x180, .erdsrRd), (0x184, .etdsrRd), (0x188, .emrbrRd), (0x300, .gask0Rd), (0x308, .gask1Rd)]

/-- The read operations of `MIB[0]` to `MIB[28]`, at `0x200 + 4k` (R82, R148). -/
def mibReadsLow : List (Nat × Instr) :=
    [(0x200, .mib0Rd), (0x204, .mib1Rd), (0x208, .mib2Rd), (0x20C, .mib3Rd), (0x210, .mib4Rd),
     (0x214, .mib5Rd), (0x218, .mib6Rd), (0x21C, .mib7Rd), (0x220, .mib8Rd), (0x224, .mib9Rd),
     (0x228, .mib10Rd), (0x22C, .mib11Rd), (0x230, .mib12Rd), (0x234, .mib13Rd), (0x238, .mib14Rd),
     (0x23C, .mib15Rd), (0x240, .mib16Rd), (0x244, .mib17Rd), (0x248, .mib18Rd), (0x24C, .mib19Rd),
     (0x250, .mib20Rd), (0x254, .mib21Rd), (0x258, .mib22Rd), (0x25C, .mib23Rd), (0x260, .mib24Rd),
     (0x264, .mib25Rd), (0x268, .mib26Rd), (0x26C, .mib27Rd), (0x270, .mib28Rd)]

/-- The read operations of `MIB[29]` to `MIB[56]`, at `0x200 + 4k` (R82, R148). -/
def mibReadsHigh : List (Nat × Instr) :=
    [(0x274, .mib29Rd), (0x278, .mib30Rd), (0x27C, .mib31Rd), (0x280, .mib32Rd), (0x284, .mib33Rd),
     (0x288, .mib34Rd), (0x28C, .mib35Rd), (0x290, .mib36Rd), (0x294, .mib37Rd), (0x298, .mib38Rd),
     (0x29C, .mib39Rd), (0x2A0, .mib40Rd), (0x2A4, .mib41Rd), (0x2A8, .mib42Rd), (0x2AC, .mib43Rd),
     (0x2B0, .mib44Rd), (0x2B4, .mib45Rd), (0x2B8, .mib46Rd), (0x2BC, .mib47Rd), (0x2C0, .mib48Rd),
     (0x2C4, .mib49Rd), (0x2C8, .mib50Rd), (0x2CC, .mib51Rd), (0x2D0, .mib52Rd), (0x2D4, .mib53Rd),
     (0x2D8, .mib54Rd), (0x2DC, .mib55Rd), (0x2E0, .mib56Rd)]

/-- The write operation of each offset of R82 but the MIB words. -/
def plainWrites : List (Nat × (Word → Instr)) :=
    [(0x004, .eirWr), (0x008, .eimrWr), (0x010, .rdarWr), (0x014, .tdarWr), (0x024, .ecrWr),
     (0x040, .mmfrWr), (0x044, .mscrWr), (0x064, .mibcWr), (0x084, .rcrWr), (0x0C4, .tcrWr),
     (0x0E4, .palrWr), (0x0E8, .paurWr), (0x0EC, .opdWr), (0x118, .iaurWr), (0x11C, .ialrWr),
     (0x120, .gaurWr), (0x124, .galrWr), (0x144, .tfwrWr), (0x14C, .frbrWr), (0x150, .rfsrWr),
     (0x180, .erdsrWr), (0x184, .etdsrWr), (0x188, .emrbrWr), (0x300, .gask0Wr), (0x308, .gask1Wr)]

/-- The write operations of `MIB[0]` to `MIB[28]`, at `0x200 + 4k` (R82, R149). -/
def mibWritesLow : List (Nat × (Word → Instr)) :=
    [(0x200, .mib0Wr), (0x204, .mib1Wr), (0x208, .mib2Wr), (0x20C, .mib3Wr), (0x210, .mib4Wr),
     (0x214, .mib5Wr), (0x218, .mib6Wr), (0x21C, .mib7Wr), (0x220, .mib8Wr), (0x224, .mib9Wr),
     (0x228, .mib10Wr), (0x22C, .mib11Wr), (0x230, .mib12Wr), (0x234, .mib13Wr), (0x238, .mib14Wr),
     (0x23C, .mib15Wr), (0x240, .mib16Wr), (0x244, .mib17Wr), (0x248, .mib18Wr), (0x24C, .mib19Wr),
     (0x250, .mib20Wr), (0x254, .mib21Wr), (0x258, .mib22Wr), (0x25C, .mib23Wr), (0x260, .mib24Wr),
     (0x264, .mib25Wr), (0x268, .mib26Wr), (0x26C, .mib27Wr), (0x270, .mib28Wr)]

/-- The write operations of `MIB[29]` to `MIB[56]`, at `0x200 + 4k` (R82, R149). -/
def mibWritesHigh : List (Nat × (Word → Instr)) :=
    [(0x274, .mib29Wr), (0x278, .mib30Wr), (0x27C, .mib31Wr), (0x280, .mib32Wr), (0x284, .mib33Wr),
     (0x288, .mib34Wr), (0x28C, .mib35Wr), (0x290, .mib36Wr), (0x294, .mib37Wr), (0x298, .mib38Wr),
     (0x29C, .mib39Wr), (0x2A0, .mib40Wr), (0x2A4, .mib41Wr), (0x2A8, .mib42Wr), (0x2AC, .mib43Wr),
     (0x2B0, .mib44Wr), (0x2B4, .mib45Wr), (0x2B8, .mib46Wr), (0x2BC, .mib47Wr), (0x2C0, .mib48Wr),
     (0x2C4, .mib49Wr), (0x2C8, .mib50Wr), (0x2CC, .mib51Wr), (0x2D0, .mib52Wr), (0x2D4, .mib53Wr),
     (0x2D8, .mib54Wr), (0x2DC, .mib55Wr), (0x2E0, .mib56Wr)]

/-- Every read operation of the window, under its offset (R82). -/
def busReads : List (Nat × Instr) := plainReads ++ mibReadsLow ++ mibReadsHigh

/-- Every write operation of the window, under its offset (R82). -/
def busWrites : List (Nat × (Word → Instr)) := plainWrites ++ mibWritesLow ++ mibWritesHigh

/-! ### The decoder -/

/-- The byte offset of a bus command, bits 9:0 (R81). -/
def busOffset (cmd : BitVec 11) : BitVec 10 := cmd.extractLsb' 0 10

/-- The direction of a bus command, bit 10: true is a write (R81). -/
def busIsWrite (cmd : BitVec 11) : Bool := cmd.getLsbD 10

/-- R100, R101: the width and alignment check comes first, then the offset is looked up. -/
def decodeBus (width : Nat) (cmd : BitVec 11) (v : Word) : Decoded :=
  if width ≠ 32 ∨ (busOffset cmd).toNat % 4 ≠ 0 then .rejected (.badAccess (busOffset cmd))
  else if busIsWrite cmd then
    match lookup (busOffset cmd).toNat busWrites with
    | some mk => .instr (mk v)
    | none => .rejected (.unknownOffset (busOffset cmd) (some v))
  else
    match lookup (busOffset cmd).toNat busReads with
    | some i => .instr i
    | none => .rejected (.unknownOffset (busOffset cmd) none)

/-! The fields of a management frame (R84). -/

/-- ST, bits 31:30. -/
def frameSt (v : Word) : BitVec 2 := v.extractLsb' 30 2
/-- OP, bits 29:28. -/
def frameOp (v : Word) : BitVec 2 := v.extractLsb' 28 2
/-- PA, bits 27:23. -/
def framePa (v : Word) : BitVec 5 := v.extractLsb' 23 5
/-- RA, bits 22:18. -/
def frameRa (v : Word) : BitVec 5 := v.extractLsb' 18 5
/-- TA, bits 17:16. -/
def frameTa (v : Word) : BitVec 2 := v.extractLsb' 16 2
/-- DATA, bits 15:0. -/
def frameData (v : Word) : Half := v.extractLsb' 0 16

/-- The management frame with these fields (R84). -/
def mmfrFrame (st op : BitVec 2) (pa ra : BitVec 5) (ta : BitVec 2) (data : Half) : Word :=
  st ++ op ++ pa ++ ra ++ ta ++ data

/-- The operation OP selects (R85). -/
def decodeMmfr (v : Word) : Decoded :=
  .instr <|
    match (frameOp v).toNat with
    | 0 => .mdioInvalid0 (frameSt v) (framePa v) (frameRa v) (frameTa v) (frameData v)
    | 1 => .mdioWrite (frameSt v) (framePa v) (frameRa v) (frameTa v) (frameData v)
    | 2 => .mdioRead (frameSt v) (framePa v) (frameRa v) (frameTa v) (frameData v)
    | _ => .mdioInvalid3 (frameSt v) (framePa v) (frameRa v) (frameTa v) (frameData v)

/-- The read operation of each PHY register number (R89). -/
def phyReadOf (ra : BitVec 5) : Instr :=
  match ra.toNat with
  | 0 => .phyRd0
  | 1 => .phyRd1
  | 2 => .phyRd2
  | 3 => .phyRd3
  | 4 => .phyRd4
  | 5 => .phyRd5
  | 6 => .phyRd6
  | 7 => .phyRd7
  | 8 => .phyRd8
  | 9 => .phyRd9
  | 10 => .phyRd10
  | 11 => .phyRd11
  | 12 => .phyRd12
  | 13 => .phyRd13
  | 14 => .phyRd14
  | 15 => .phyRd15
  | 16 => .phyRd16
  | 17 => .phyRd17
  | 18 => .phyRd18
  | 19 => .phyRd19
  | 20 => .phyRd20
  | 21 => .phyRd21
  | 22 => .phyRd22
  | 23 => .phyRd23
  | 24 => .phyRd24
  | 25 => .phyRd25
  | 26 => .phyRd26
  | 27 => .phyRd27
  | 28 => .phyRd28
  | 29 => .phyRd29
  | 30 => .phyRd30
  | _ => .phyRd31

/-- The write operation of each PHY register number (R89). -/
def phyWriteOf (ra : BitVec 5) (data : Half) : Instr :=
  match ra.toNat with
  | 0 => .phyWr0 data
  | 1 => .phyWr1 data
  | 2 => .phyWr2 data
  | 3 => .phyWr3 data
  | 4 => .phyWr4 data
  | 5 => .phyWr5 data
  | 6 => .phyWr6 data
  | 7 => .phyWr7 data
  | 8 => .phyWr8 data
  | 9 => .phyWr9 data
  | 10 => .phyWr10 data
  | 11 => .phyWr11 data
  | 12 => .phyWr12 data
  | 13 => .phyWr13 data
  | 14 => .phyWr14 data
  | 15 => .phyWr15 data
  | 16 => .phyWr16 data
  | 17 => .phyWr17 data
  | 18 => .phyWr18 data
  | 19 => .phyWr19 data
  | 20 => .phyWr20 data
  | 21 => .phyWr21 data
  | 22 => .phyWr22 data
  | 23 => .phyWr23 data
  | 24 => .phyWr24 data
  | 25 => .phyWr25 data
  | 26 => .phyWr26 data
  | 27 => .phyWr27 data
  | 28 => .phyWr28 data
  | 29 => .phyWr29 data
  | 30 => .phyWr30 data
  | _ => .phyWr31 data

/-- The `phy` command: bit 5 is W, bits 4:0 the register number (R89). -/
def decodePhy (cmd : BitVec 6) (data : Half) : Decoded :=
  .instr (if cmd.getLsbD 5 then phyWriteOf (cmd.extractLsb' 0 5) data
    else phyReadOf (cmd.extractLsb' 0 5))

/-- The host event codes (R93). A code with no event, an operand of another event and a parameter
out of its range are outside the admitted forms (00_scope.md R13; log 9). -/
def decodeHost (code : BitVec 3) (operand : HostOperand) : Decoded :=
  match code.toNat, operand with
  | 0, .params p => if p.wf then .instr (.construct p) else .rejected (.badEvent code)
  | 1, .nothing => .instr .canReceive
  | 2, .frame bytes draw => .instr (.receive bytes draw)
  | 3, .link b => .instr (.setLink b)
  | _, _ => .rejected (.badEvent code)

/-- The decoder, total on requests. -/
def decode : Request → Decoded
  | .bus width cmd v => decodeBus width cmd v
  | .mmfr frame => decodeMmfr frame
  | .phy cmd data => decodePhy cmd data
  | .host code operand => decodeHost code operand

/-- The operand of a host event written as a table word: the table gives it no bits, so it is the
empty frame with a drawn trailer, link down, and for `CONSTRUCT` the defaults of R8 (log 12). -/
def tableOperand (code : Nat) : HostOperand :=
  match code with
  | 0 => .params Config.defaultParams
  | 2 => .frame [] none
  | 3 => .link false
  | _ => .nothing

/-- The request that a word of spec/opcode_table.json stands for. The table numbers each format's
words from 0 and does not say which format a word is of, so the count of bits does: 16 is `bus`,
32 is `mmfr`, 8 is `phy` or `host`. The words 0 to 3 of 8 bits are both `phy` and `host` codes;
they are read as the host's here (log 11). Another count is a bus access of that width. The spec
gives a command of 11, 6 or 3 bits no container: the bits of a word above its command are dropped
(bits 15:11 of a `bus` word, 7:6 of a `phy` word). DESIGN CHOICE (log 11). -/
def tableRequest (nbits w : Nat) : Request :=
  if nbits = 16 then .bus 32 (BitVec.ofNat 11 w) 0
  else if nbits = 32 then .mmfr (BitVec.ofNat 32 w)
  else if nbits = 8 then
    if w < 4 then .host (BitVec.ofNat 3 w) (tableOperand w) else .phy (BitVec.ofNat 6 w) 0
  else .bus nbits (BitVec.ofNat 11 w) 0

/-- The instruction the decoder reads from a word of spec/opcode_table.json, every operand bit the
table gives no place being 0. -/
def decodeTableWord (nbits w : Nat) : Option Instr :=
  match decode (tableRequest nbits w) with
  | .instr i => some i
  | .rejected _ => none

/-! ### The encoder -/

/-- The request of an operation (R81, R84, R89, R93). A read's data operand is written as 0. -/
def encode : Instr → Request
  | .eirRd => .bus 32 0x004 0
  | .eirWr v => .bus 32 0x404 v
  | .eimrRd => .bus 32 0x008 0
  | .eimrWr v => .bus 32 0x408 v
  | .rdarRd => .bus 32 0x010 0
  | .rdarWr v => .bus 32 0x410 v
  | .tdarRd => .bus 32 0x014 0
  | .tdarWr v => .bus 32 0x414 v
  | .ecrRd => .bus 32 0x024 0
  | .ecrWr v => .bus 32 0x424 v
  | .mmfrRd => .bus 32 0x040 0
  | .mmfrWr v => .bus 32 0x440 v
  | .mscrRd => .bus 32 0x044 0
  | .mscrWr v => .bus 32 0x444 v
  | .mibcRd => .bus 32 0x064 0
  | .mibcWr v => .bus 32 0x464 v
  | .rcrRd => .bus 32 0x084 0
  | .rcrWr v => .bus 32 0x484 v
  | .tcrRd => .bus 32 0x0C4 0
  | .tcrWr v => .bus 32 0x4C4 v
  | .palrRd => .bus 32 0x0E4 0
  | .palrWr v => .bus 32 0x4E4 v
  | .paurRd => .bus 32 0x0E8 0
  | .paurWr v => .bus 32 0x4E8 v
  | .opdRd => .bus 32 0x0EC 0
  | .opdWr v => .bus 32 0x4EC v
  | .iaurRd => .bus 32 0x118 0
  | .iaurWr v => .bus 32 0x518 v
  | .ialrRd => .bus 32 0x11C 0
  | .ialrWr v => .bus 32 0x51C v
  | .gaurRd => .bus 32 0x120 0
  | .gaurWr v => .bus 32 0x520 v
  | .galrRd => .bus 32 0x124 0
  | .galrWr v => .bus 32 0x524 v
  | .tfwrRd => .bus 32 0x144 0
  | .tfwrWr v => .bus 32 0x544 v
  | .frbrRd => .bus 32 0x14C 0
  | .frbrWr v => .bus 32 0x54C v
  | .rfsrRd => .bus 32 0x150 0
  | .rfsrWr v => .bus 32 0x550 v
  | .erdsrRd => .bus 32 0x180 0
  | .erdsrWr v => .bus 32 0x580 v
  | .etdsrRd => .bus 32 0x184 0
  | .etdsrWr v => .bus 32 0x584 v
  | .emrbrRd => .bus 32 0x188 0
  | .emrbrWr v => .bus 32 0x588 v
  | .mib0Rd => .bus 32 0x200 0
  | .mib0Wr v => .bus 32 0x600 v
  | .mib1Rd => .bus 32 0x204 0
  | .mib1Wr v => .bus 32 0x604 v
  | .mib2Rd => .bus 32 0x208 0
  | .mib2Wr v => .bus 32 0x608 v
  | .mib3Rd => .bus 32 0x20C 0
  | .mib3Wr v => .bus 32 0x60C v
  | .mib4Rd => .bus 32 0x210 0
  | .mib4Wr v => .bus 32 0x610 v
  | .mib5Rd => .bus 32 0x214 0
  | .mib5Wr v => .bus 32 0x614 v
  | .mib6Rd => .bus 32 0x218 0
  | .mib6Wr v => .bus 32 0x618 v
  | .mib7Rd => .bus 32 0x21C 0
  | .mib7Wr v => .bus 32 0x61C v
  | .mib8Rd => .bus 32 0x220 0
  | .mib8Wr v => .bus 32 0x620 v
  | .mib9Rd => .bus 32 0x224 0
  | .mib9Wr v => .bus 32 0x624 v
  | .mib10Rd => .bus 32 0x228 0
  | .mib10Wr v => .bus 32 0x628 v
  | .mib11Rd => .bus 32 0x22C 0
  | .mib11Wr v => .bus 32 0x62C v
  | .mib12Rd => .bus 32 0x230 0
  | .mib12Wr v => .bus 32 0x630 v
  | .mib13Rd => .bus 32 0x234 0
  | .mib13Wr v => .bus 32 0x634 v
  | .mib14Rd => .bus 32 0x238 0
  | .mib14Wr v => .bus 32 0x638 v
  | .mib15Rd => .bus 32 0x23C 0
  | .mib15Wr v => .bus 32 0x63C v
  | .mib16Rd => .bus 32 0x240 0
  | .mib16Wr v => .bus 32 0x640 v
  | .mib17Rd => .bus 32 0x244 0
  | .mib17Wr v => .bus 32 0x644 v
  | .mib18Rd => .bus 32 0x248 0
  | .mib18Wr v => .bus 32 0x648 v
  | .mib19Rd => .bus 32 0x24C 0
  | .mib19Wr v => .bus 32 0x64C v
  | .mib20Rd => .bus 32 0x250 0
  | .mib20Wr v => .bus 32 0x650 v
  | .mib21Rd => .bus 32 0x254 0
  | .mib21Wr v => .bus 32 0x654 v
  | .mib22Rd => .bus 32 0x258 0
  | .mib22Wr v => .bus 32 0x658 v
  | .mib23Rd => .bus 32 0x25C 0
  | .mib23Wr v => .bus 32 0x65C v
  | .mib24Rd => .bus 32 0x260 0
  | .mib24Wr v => .bus 32 0x660 v
  | .mib25Rd => .bus 32 0x264 0
  | .mib25Wr v => .bus 32 0x664 v
  | .mib26Rd => .bus 32 0x268 0
  | .mib26Wr v => .bus 32 0x668 v
  | .mib27Rd => .bus 32 0x26C 0
  | .mib27Wr v => .bus 32 0x66C v
  | .mib28Rd => .bus 32 0x270 0
  | .mib28Wr v => .bus 32 0x670 v
  | .mib29Rd => .bus 32 0x274 0
  | .mib29Wr v => .bus 32 0x674 v
  | .mib30Rd => .bus 32 0x278 0
  | .mib30Wr v => .bus 32 0x678 v
  | .mib31Rd => .bus 32 0x27C 0
  | .mib31Wr v => .bus 32 0x67C v
  | .mib32Rd => .bus 32 0x280 0
  | .mib32Wr v => .bus 32 0x680 v
  | .mib33Rd => .bus 32 0x284 0
  | .mib33Wr v => .bus 32 0x684 v
  | .mib34Rd => .bus 32 0x288 0
  | .mib34Wr v => .bus 32 0x688 v
  | .mib35Rd => .bus 32 0x28C 0
  | .mib35Wr v => .bus 32 0x68C v
  | .mib36Rd => .bus 32 0x290 0
  | .mib36Wr v => .bus 32 0x690 v
  | .mib37Rd => .bus 32 0x294 0
  | .mib37Wr v => .bus 32 0x694 v
  | .mib38Rd => .bus 32 0x298 0
  | .mib38Wr v => .bus 32 0x698 v
  | .mib39Rd => .bus 32 0x29C 0
  | .mib39Wr v => .bus 32 0x69C v
  | .mib40Rd => .bus 32 0x2A0 0
  | .mib40Wr v => .bus 32 0x6A0 v
  | .mib41Rd => .bus 32 0x2A4 0
  | .mib41Wr v => .bus 32 0x6A4 v
  | .mib42Rd => .bus 32 0x2A8 0
  | .mib42Wr v => .bus 32 0x6A8 v
  | .mib43Rd => .bus 32 0x2AC 0
  | .mib43Wr v => .bus 32 0x6AC v
  | .mib44Rd => .bus 32 0x2B0 0
  | .mib44Wr v => .bus 32 0x6B0 v
  | .mib45Rd => .bus 32 0x2B4 0
  | .mib45Wr v => .bus 32 0x6B4 v
  | .mib46Rd => .bus 32 0x2B8 0
  | .mib46Wr v => .bus 32 0x6B8 v
  | .mib47Rd => .bus 32 0x2BC 0
  | .mib47Wr v => .bus 32 0x6BC v
  | .mib48Rd => .bus 32 0x2C0 0
  | .mib48Wr v => .bus 32 0x6C0 v
  | .mib49Rd => .bus 32 0x2C4 0
  | .mib49Wr v => .bus 32 0x6C4 v
  | .mib50Rd => .bus 32 0x2C8 0
  | .mib50Wr v => .bus 32 0x6C8 v
  | .mib51Rd => .bus 32 0x2CC 0
  | .mib51Wr v => .bus 32 0x6CC v
  | .mib52Rd => .bus 32 0x2D0 0
  | .mib52Wr v => .bus 32 0x6D0 v
  | .mib53Rd => .bus 32 0x2D4 0
  | .mib53Wr v => .bus 32 0x6D4 v
  | .mib54Rd => .bus 32 0x2D8 0
  | .mib54Wr v => .bus 32 0x6D8 v
  | .mib55Rd => .bus 32 0x2DC 0
  | .mib55Wr v => .bus 32 0x6DC v
  | .mib56Rd => .bus 32 0x2E0 0
  | .mib56Wr v => .bus 32 0x6E0 v
  | .gask0Rd => .bus 32 0x300 0
  | .gask0Wr v => .bus 32 0x700 v
  | .gask1Rd => .bus 32 0x308 0
  | .gask1Wr v => .bus 32 0x708 v
  | .mdioInvalid0 st pa ra ta data => .mmfr (mmfrFrame st 0 pa ra ta data)
  | .mdioWrite st pa ra ta data => .mmfr (mmfrFrame st 1 pa ra ta data)
  | .mdioRead st pa ra ta data => .mmfr (mmfrFrame st 2 pa ra ta data)
  | .mdioInvalid3 st pa ra ta data => .mmfr (mmfrFrame st 3 pa ra ta data)
  | .phyRd0 => .phy 0x00 0
  | .phyRd1 => .phy 0x01 0
  | .phyRd2 => .phy 0x02 0
  | .phyRd3 => .phy 0x03 0
  | .phyRd4 => .phy 0x04 0
  | .phyRd5 => .phy 0x05 0
  | .phyRd6 => .phy 0x06 0
  | .phyRd7 => .phy 0x07 0
  | .phyRd8 => .phy 0x08 0
  | .phyRd9 => .phy 0x09 0
  | .phyRd10 => .phy 0x0A 0
  | .phyRd11 => .phy 0x0B 0
  | .phyRd12 => .phy 0x0C 0
  | .phyRd13 => .phy 0x0D 0
  | .phyRd14 => .phy 0x0E 0
  | .phyRd15 => .phy 0x0F 0
  | .phyRd16 => .phy 0x10 0
  | .phyRd17 => .phy 0x11 0
  | .phyRd18 => .phy 0x12 0
  | .phyRd19 => .phy 0x13 0
  | .phyRd20 => .phy 0x14 0
  | .phyRd21 => .phy 0x15 0
  | .phyRd22 => .phy 0x16 0
  | .phyRd23 => .phy 0x17 0
  | .phyRd24 => .phy 0x18 0
  | .phyRd25 => .phy 0x19 0
  | .phyRd26 => .phy 0x1A 0
  | .phyRd27 => .phy 0x1B 0
  | .phyRd28 => .phy 0x1C 0
  | .phyRd29 => .phy 0x1D 0
  | .phyRd30 => .phy 0x1E 0
  | .phyRd31 => .phy 0x1F 0
  | .phyWr0 data => .phy 0x20 data
  | .phyWr1 data => .phy 0x21 data
  | .phyWr2 data => .phy 0x22 data
  | .phyWr3 data => .phy 0x23 data
  | .phyWr4 data => .phy 0x24 data
  | .phyWr5 data => .phy 0x25 data
  | .phyWr6 data => .phy 0x26 data
  | .phyWr7 data => .phy 0x27 data
  | .phyWr8 data => .phy 0x28 data
  | .phyWr9 data => .phy 0x29 data
  | .phyWr10 data => .phy 0x2A data
  | .phyWr11 data => .phy 0x2B data
  | .phyWr12 data => .phy 0x2C data
  | .phyWr13 data => .phy 0x2D data
  | .phyWr14 data => .phy 0x2E data
  | .phyWr15 data => .phy 0x2F data
  | .phyWr16 data => .phy 0x30 data
  | .phyWr17 data => .phy 0x31 data
  | .phyWr18 data => .phy 0x32 data
  | .phyWr19 data => .phy 0x33 data
  | .phyWr20 data => .phy 0x34 data
  | .phyWr21 data => .phy 0x35 data
  | .phyWr22 data => .phy 0x36 data
  | .phyWr23 data => .phy 0x37 data
  | .phyWr24 data => .phy 0x38 data
  | .phyWr25 data => .phy 0x39 data
  | .phyWr26 data => .phy 0x3A data
  | .phyWr27 data => .phy 0x3B data
  | .phyWr28 data => .phy 0x3C data
  | .phyWr29 data => .phy 0x3D data
  | .phyWr30 data => .phy 0x3E data
  | .phyWr31 data => .phy 0x3F data
  | .construct p => .host 0 (.params p)
  | .canReceive => .host 1 .nothing
  | .receive frame draw => .host 2 (.frame frame draw)
  | .setLink b => .host 3 (.link b)

end Sys2Proof
end

