-- ==== Sys2Proof/Machine/State.lean ====
section
/-! DEFINITION. The state of the block and of the guest memory around it (10_state.md R20 to R47,
20_memory.md R60), the reasons a step can stop, and the state right after construction (R48, R300).
Plain data: every field is a list, a number or a named value. -/

namespace Sys2Proof.Machine

/-- Guest memory (20_memory.md R60): the bytes that are not as in `Memory.blank`, by address. -/
abbrev Memory := List Host.Cell

/-- A diagnostic record `(kind, info)` (60_exceptions.md R274). -/
inductive LogRecord where
  /-- `LOOPBACK_UNSUPPORTED`: the value written to RCR (40_register_file.md R119). -/
  | loopbackUnsupported (v : Word)
  /-- `MIB_UNSUPPORTED`: offset and value of a MIBC or MIB word write (R117, R149). -/
  | mibUnsupported (off : BitVec 10) (v : Word)
  /-- `HASH_FILTER_UNSUPPORTED`: offset and value of an IAUR, IALR, GAUR or GALR write (R129 to R135). -/
  | hashFilterUnsupported (off : BitVec 10) (v : Word)
  /-- `MDIO_BAD_OPCODE`: the MMFR value of a dispatch with OP 0 or 3 (44_mdio_phy.md R236). -/
  | mdioBadOpcode (mmfr : Word)
  /-- `LOST_END_OF_FRAME`: the address of the slot that was not empty (43_receive.md R206). -/
  | lostEndOfFrame (slot : Word)
  deriving DecidableEq, Repr

/-- What the last operation returned to its caller. The model's own (log 2): the spec's reads
"return" a value and change no state (40_register_file.md R100). -/
inductive Answer where
  /-- nothing is returned: writes, `receive`, `SET_LINK`, `CONSTRUCT`, a dispatch -/
  | none
  /-- the 32-bit read data of a register read (R100) -/
  | word (v : Word)
  /-- the 16-bit read data of a PHY register read (44_mdio_phy.md R241 to R246) -/
  | half (v : Half)
  /-- the answer of `can_receive()` (43_receive.md R200) -/
  | bool (b : Bool)
  /-- the bytes of the bus master's own memory read (log 21) -/
  | bytes (bs : List Byte)
  deriving DecidableEq, Repr

/-- The machine: the block of 10_state.md R20, its outputs (R46), guest memory, and the model's own
fields `pending`, `answer`, `draws`, `setLineCalls`. -/
structure State where
  /-- the construction parameters (00_scope.md R8) -/
  params    : Params
  /-- EIR, event flags (R23) -/
  eir       : Word
  /-- EIMR, event mask (R24) -/
  eimr      : Word
  /-- ECR, enable and reset control (R25) -/
  ecr       : Word
  /-- MMFR, management frame (R26) -/
  mmfr      : Word
  /-- MSCR, management clock (R27) -/
  mscr      : Word
  /-- RCR, receive control (R28) -/
  rcr       : Word
  /-- TCR, transmit control (R29) -/
  tcr       : Word
  /-- TFWR, transmit FIFO watermark (R30) -/
  tfwr      : Word
  /-- RFSR, receive FIFO status (R31) -/
  rfsr      : Word
  /-- ERDSR, receive ring base (R32) -/
  erdsr     : Word
  /-- ETDSR, transmit ring base (R33) -/
  etdsr     : Word
  /-- EMRBR, per-buffer maximum receive length (R34) -/
  emrbr     : Word
  /-- GASK0, gasket register (R36) -/
  gask0     : Word
  /-- GASK1, gasket register (R36) -/
  gask1     : Word
  /-- the station address (R35) -/
  mac       : Mac
  /-- the transmit ring cursor, the transmit engine's program counter (R39) -/
  txCursor  : Word
  /-- the receive ring cursor (R40) -/
  rxCursor  : Word
  /-- the receive-enabled flag, the answer of `can_receive()` (R41) -/
  rxEnabled : Bool
  /-- the active set seen by the previous `UPDATE()` (R42) -/
  irqState  : Word
  /-- the PHY register file `phy[0..31]` (R43) -/
  phy       : Vector Half 32
  /-- the PHY's link-up flag (R44) -/
  linkUp    : Bool
  /-- none, or the configuration error that ended the session (R47) -/
  fatal     : Option FatalRecord
  /-- the interrupt line levels `line[0..12]` the sink holds (R42, R46) -/
  lines     : Vector Bool 13
  /-- the frames handed to the transport's `send`, in order (R46) -/
  sent      : List (List Byte)
  /-- the diagnostic records, in order (R46) -/
  log       : List LogRecord
  /-- guest memory (20_memory.md R60) -/
  mem       : Memory
  /-- MODEL'S OWN: the external events still to happen, in their total order (R73; log 1) -/
  pending   : List Event
  /-- MODEL'S OWN: what the last operation returned to its caller (log 2) -/
  answer    : Answer
  /-- MODEL'S OWN: how many trailers have been drawn from `Config.rxTrailer` (log 3) -/
  draws     : Nat
  /-- MODEL'S OWN: the interrupt sink's record of `SetLine(i, b)` calls, in order (log 20) -/
  setLineCalls : List (Fin 13 × Bool)
  deriving DecidableEq, Repr

/-- Why a step can stop with a fault. -/
inductive Fault where
  /-- Raised by every operation and every event once `fatal` holds a record: "Once set it is never
  cleared and no operation has a step" (10_state.md R47, 60_exceptions.md R273). Safe: it is the end
  of the session the spec describes; the faulting access itself is a next state (log 8). -/
  | sessionEnded (r : FatalRecord)
  deriving DecidableEq, Repr

/-- Why the model can refuse an instruction. -/
inductive Refusal where
  /-- Raised by an arm of `exec` whose instruction has no meaning yet; safe. No arm raises it. -/
  | notModelled (mnemonic : String)
  deriving DecidableEq, Repr

/-- What one operation ends in (00_scope.md R13). -/
abbrev Outcome := Host.Outcome State Fault Refusal

/-- The machine right after construction with `Config.defaultParams` (10_state.md R48, R300), with
guest memory blank (log 7) and no event pending (log 1). -/
def State.reset : State where
  params := Config.defaultParams
  eir := 0x00000000
  eimr := 0x00000000
  ecr := 0x00000000
  mmfr := 0x00000000
  mscr := 0x00000000
  rcr := 0x05EE0001
  tcr := 0x00000000
  tfwr := 0x00000000
  rfsr := 0x00000500
  erdsr := 0x00000000
  etdsr := 0x00000000
  emrbr := 0x00000000
  gask0 := 0x00000000
  gask1 := 0x00000000
  mac := Config.defaultParams.mac0
  txCursor := 0x00000000
  rxCursor := 0x00000000
  rxEnabled := false
  irqState := 0x00000000
  phy := Config.defaultParams.phyRegReset
  linkUp := Config.defaultParams.linkUpInit
  fatal := none
  lines := Vector.replicate 13 false
  sent := []
  log := []
  mem := []
  pending := []
  answer := .none
  draws := 0
  setLineCalls := []

end Sys2Proof.Machine
end

