-- ==== Sys2Proof/Machine/Ops.lean ====
section
/-! DEFINITION. The primitives of 00_scope.md R11 over memory and outputs: `MemRead`, `MemWrite`,
`Send`, `Log`, `raise Fatal`, and how an operation of a live session ends (R13). -/

namespace Sys2Proof.Machine

/-! ### Guest memory (20_memory.md R60 to R63) -/

/-- What an address that nothing has written reads as: 0, as in the start state S0 of
95_test_vectors.md. DESIGN CHOICE (log 7), unsafe. -/
def Memory.blank : Byte := 0x00

/-- The byte at the address `k`. -/
def Memory.get : Memory → Nat → Byte
  | [], _ => Memory.blank
  | (k', b) :: m, k => if k = k' then b else Memory.get m k

/-- Memory with the byte `b` at the address `k`, keeping the canonical form. -/
def Memory.set : Memory → Nat → Byte → Memory
  | [], k, b => if b = Memory.blank then [] else [(k, b)]
  | (k', b') :: m, k, b =>
    if k < k' then (if b = Memory.blank then (k', b') :: m else (k, b) :: (k', b') :: m)
    else if k = k' then (if b = Memory.blank then m else (k, b) :: m)
    else (k', b') :: Memory.set m k b

/-- The addresses rise strictly from `lo`, are below 2^32, and no entry is blank. -/
def Memory.wfFrom : Nat → Memory → Bool
  | _, [] => true
  | lo, (k, b) :: m =>
    decide (lo ≤ k) && decide (k < 4294967296) && (b != Memory.blank) && Memory.wfFrom (k + 1) m

/-- The canonical form: equal memories are equal lists. -/
def Memory.wf (m : Memory) : Bool := Memory.wfFrom 0 m

/-- One byte of guest memory. -/
def State.readByte (s : State) (a : Word) : Byte := s.mem.get a.toNat

/-- One byte stored in guest memory. -/
def State.writeByte (s : State) (a : Word) (b : Byte) : State :=
  { s with mem := s.mem.set a.toNat b }

/-- `MemRead(a, n)`: the n bytes at a, a+1, ... mod 2^32; it never faults (R61, R62). -/
def State.readBytes (s : State) (a : Word) : Nat → List Byte
  | 0 => []
  | n + 1 => s.readByte a :: s.readBytes (a + 1) n

/-- The memory after bs is stored at a, a+1, ... mod 2^32, in increasing order (R11, R61). -/
def Memory.setBytes : Memory → Word → List Byte → Memory
  | m, _, [] => m
  | m, a, b :: bs => Memory.setBytes (m.set a.toNat b) (a + 1) bs

/-- `MemWrite(a, n, bs)` with n the length of bs; it never faults (R63). -/
def State.writeBytes (s : State) (a : Word) (bs : List Byte) : State :=
  { s with mem := s.mem.setBytes a bs }

/-! ### Outputs (10_state.md R46) -/

/-- `Send(bs)`: hand a frame to the packet transport (R11). -/
def State.send (s : State) (bs : List Byte) : State := { s with sent := s.sent ++ [bs] }

/-- `Log(kind, info)` (60_exceptions.md R274). -/
def State.note (s : State) (r : LogRecord) : State := { s with log := s.log ++ [r] }

/-- What the operation returns to its caller (log 2). -/
def State.reply (s : State) (a : Answer) : State := { s with answer := a }

/-! ### How an operation ends (00_scope.md R13) -/

/-- An operation that takes the session `s` to `t`. A session that a `Fatal` has ended has no
further step for any agent (10_state.md R47, 60_exceptions.md R273). -/
def State.perform (s t : State) : Outcome :=
  match s.fatal with
  | some r => .fault (.sessionEnded r)
  | none => .next t

/-- `raise Fatal(r)`, the one exception the block has: it sets `fatal` and changes nothing else: no
line, no frame, no log record, no `UPDATE()` (60_exceptions.md R271 to R273). There is no trap entry,
no saved state and no return from it (R283, R284). -/
def State.raiseFatal (s : State) (r : FatalRecord) : State := { s with fatal := some r }

/-- `BUS_READ` of a register: the value goes to the bus master, no state changes and `UPDATE()` does
not run (40_register_file.md R100). -/
def State.busRead (s : State) (v : Word) : Outcome := s.perform (s.reply (.word v))

end Sys2Proof.Machine
end

