-- ==== Sys2Proof/Machine/Operands.lean ====
section
/-! DEFINITION. The operand fields the block reads out of its registers (30_encoding.md R90) and the
masks its writes apply (40_register_file.md). -/

namespace Sys2Proof.Machine

/-- ETHER_EN, ECR bit 1 (10_state.md R25). -/
def State.etherEn (s : State) : Bool := s.ecr.getLsbD 1

/-- The maximum receive frame length, `zext(rcr[31:16])` (R28, R90). -/
def State.maxFrame (s : State) : Nat := (s.rcr.extractLsb' 16 16).toNat

/-- The per-buffer maximum receive length (R34, R90). -/
def State.bufferMax (s : State) : Nat := s.emrbr.toNat

/-- The management clock divisor, `mscr & mdio_divisor_mask` (44_mdio_phy.md R232). -/
def State.divisor (s : State) : Word := s.mscr &&& s.params.mdioDivisorMask

/-- What a write of ERDSR or ETDSR stores (R143, R145). -/
def State.ringBase (s : State) (v : Word) : Word := v &&& s.params.ringBaseMask

/-- What a write of MSCR stores (R115). -/
def mscrStored (v : Word) : Word := v &&& 0x000000FE

/-- What a write of RCR stores (R119). -/
def rcrStored (v : Word) : Word := v &&& 0x07FF003F

/-- What a write of TFWR stores (R137). -/
def tfwrStored (v : Word) : Word := v &&& 0x00000003

/-- What a write of RFSR stores (R141). -/
def rfsrStored (v : Word) : Word := (v &&& 0x000003FC) ||| 0x00000400

/-- What a write of EMRBR stores (R147). -/
def emrbrStored (v : Word) : Word := v &&& 0x000007F0

/-- The read view of PALR (R122). -/
def palrView (m : Mac) : Word := m.b0 ++ m.b1 ++ m.b2 ++ m.b3

/-- The read view of PAUR (R124). -/
def paurView (m : Mac) : Word := m.b4 ++ m.b5 ++ (0x8808 : Half)

/-- The station address after a write of PALR (R123). -/
def palrStored (m : Mac) (v : Word) : Mac :=
  { m with b0 := v.extractLsb' 24 8, b1 := v.extractLsb' 16 8,
           b2 := v.extractLsb' 8 8, b3 := v.extractLsb' 0 8 }

/-- The station address after a write of PAUR; bits 15:0 of the value are dropped (R125). -/
def paurStored (m : Mac) (v : Word) : Mac :=
  { m with b4 := v.extractLsb' 24 8, b5 := v.extractLsb' 16 8 }

end Sys2Proof.Machine
end

