-- ==== Sys2Proof/Machine/Flags.lean ====
section
/-! DEFINITION. The event flags of EIR (10_state.md R23) and the interrupt mapper `UPDATE()`
(60_exceptions.md R279) that drives the 13 lines. -/

namespace Sys2Proof.Machine

/-! ### Event bits (30_encoding.md R88) -/

/-- HB, EIR bit 31; the block never sets it. -/
def hb : Word := 0x80000000
/-- BABR, EIR bit 30; the block never sets it (60_exceptions.md R275). -/
def babr : Word := 0x40000000
/-- BABT, EIR bit 29: a transmit clamp (42_transmit.md R183). -/
def babt : Word := 0x20000000
/-- GRA, EIR bit 28: graceful stop complete (40_register_file.md R121). -/
def gra : Word := 0x10000000
/-- TXF, EIR bit 27: a transmitted frame (42_transmit.md R184). -/
def txf : Word := 0x08000000
/-- TXB, EIR bit 26: a transmit slot handed back (42_transmit.md R185). -/
def txb : Word := 0x04000000
/-- RXF, EIR bit 25: the final slot of a received frame (43_receive.md R210). -/
def rxf : Word := 0x02000000
/-- RXB, EIR bit 24: every other filled receive slot (43_receive.md R210). -/
def rxb : Word := 0x01000000
/-- MII, EIR bit 23: a management dispatch (44_mdio_phy.md R237). -/
def mii : Word := 0x00800000
/-- EB, EIR bit 22; the block never sets it. -/
def eb : Word := 0x00400000
/-- LC, EIR bit 21; the block never sets it. -/
def lc : Word := 0x00200000
/-- RL, EIR bit 20; the block never sets it. -/
def rl : Word := 0x00100000
/-- UN, EIR bit 19; the block never sets it. -/
def un : Word := 0x00080000

/-- An engine sets event flags: `reg.eir <- reg.eir | e`. -/
def State.raise (s : State) (e : Word) : State := { s with eir := s.eir ||| e }

/-! ### The interrupt mapper -/

/-- `LINE_MASK[i]`: the event bit of each line, in the source's line order (R88). -/
def lineMask (i : Fin 13) : Word :=
  match i.val with
  | 0 => txf
  | 1 => txb
  | 2 => un
  | 3 => rl
  | 4 => rxf
  | 5 => rxb
  | 6 => mii
  | 7 => lc
  | 8 => hb
  | 9 => gra
  | 10 => eb
  | 11 => babt
  | _ => babr

/-- The lines in increasing index order, the order in which `UPDATE()` drives them (R279). -/
def lineOrder : List (Fin 13) := [0, 1, 2, 3, 4, 5, 6, 7, 8, 9, 10, 11, 12]

/-- A line's bit in a set of events. -/
def lineBit (set : Word) (i : Fin 13) : Bool := (set &&& lineMask i) != 0

/-- `SetLine(i, b)`: drive a line at the interrupt sink (00_scope.md R11). -/
def State.setLine (s : State) (i : Fin 13) (b : Bool) : State :=
  { s with lines := s.lines.set i b, setLineCalls := s.setLineCalls ++ [(i, b)] }

/-- The loop of `UPDATE()` over the lines `is`: a line is driven only where its bit changed (R279). -/
def State.driveLines (active changed : Word) : List (Fin 13) → State → State
  | [], s => s
  | i :: is, s =>
    State.driveLines active changed is
      (if lineBit changed i then s.setLine i (lineBit active i) else s)

/-- The events that are pending and enabled, `EIR & EIMR` (R277, R279). -/
def State.active (s : State) : Word := s.eir &&& s.eimr

/-- `UPDATE()`, the interrupt mapper (R279). -/
def State.update (s : State) : State :=
  { State.driveLines s.active (s.active ^^^ s.irqState) lineOrder s with irqState := s.active }

/-- `BUS_WRITE` of a register: after everything the write does (`t`), `UPDATE()` runs exactly once,
and nothing is returned (40_register_file.md R101, 60_exceptions.md R280). -/
def State.busWrite (s t : State) : Outcome := s.perform (t.reply .none).update

end Sys2Proof.Machine
end

