-- ==== Sys2Proof/Machine/Codec.lean ====
section
/-! DEFINITION. The descriptor codec and the ring-cursor advance (41_descriptor_codec.md), the only
place where byte order is converted (R174). -/

namespace Sys2Proof.Machine

/-- The in-core descriptor (R170). -/
structure Desc where
  flags  : Half
  length : Half
  buffer : Word
  deriving DecidableEq, Repr

/-- `DEC32`: four bytes, b0 at the lowest address, as a word (R173). -/
def dec32 (e : Endian) (b0 b1 b2 b3 : Byte) : Word :=
  match e with
  | .big => b0 ++ b1 ++ b2 ++ b3
  | .little => b3 ++ b2 ++ b1 ++ b0

/-- `ENC32`: a word as four bytes, the first at the lowest address (R173). -/
def enc32 (e : Endian) (w : Word) : List Byte :=
  match e with
  | .big => [w.extractLsb' 24 8, w.extractLsb' 16 8, w.extractLsb' 8 8, w.extractLsb' 0 8]
  | .little => [w.extractLsb' 0 8, w.extractLsb' 8 8, w.extractLsb' 16 8, w.extractLsb' 24 8]

/-- The 32-bit value at `a` in the device's byte order. -/
def State.readWord (s : State) (a : Word) : Word :=
  dec32 s.params.devEndian (s.readByte a) (s.readByte (a + 1)) (s.readByte (a + 2)) (s.readByte (a + 3))

/-- `DECODE(addr)`: the 8 bytes of a slot as a descriptor (R171). -/
def State.decodeDesc (s : State) (addr : Word) : Desc where
  flags := (s.readWord addr).extractLsb' 16 16
  length := (s.readWord addr).extractLsb' 0 16
  buffer := s.readWord (addr + 4)

/-- `ENCODE(d, addr)`: all 8 bytes of the slot are written (R172). -/
def State.encodeDesc (s : State) (d : Desc) (addr : Word) : State :=
  s.writeBytes addr
    (enc32 s.params.devEndian (d.flags ++ d.length) ++ enc32 s.params.devEndian d.buffer)

/-- `owned(d)`: R on transmit, E on receive, flags bit 15 (R176). -/
def Desc.owned (d : Desc) : Bool := (d.flags &&& 0x8000) != 0

/-- `wrap(d)`: flags bit 13 (R176). -/
def Desc.wrap (d : Desc) : Bool := (d.flags &&& 0x2000) != 0

/-- `last(d)`: flags bit 11 (R176). -/
def Desc.last (d : Desc) : Bool := (d.flags &&& 0x0800) != 0

/-- The slot handed back to software: the ownership bit is cleared, nothing else changes
(42_transmit.md R186, 43_receive.md R209). -/
def Desc.release (d : Desc) : Desc := { d with flags := d.flags &&& ~~~0x8000 }

/-- `NEXT(d, addr, base)`: the base where the wrap bit is set, else 8 bytes on, mod 2^32 (R177). -/
def Desc.next (d : Desc) (addr base : Word) : Word := if d.wrap then base else addr + 8

end Sys2Proof.Machine
end

