-- ==== Sys2Proof/Machine/Receive.lean ====
section
/-! DEFINITION. The receive engine (43_receive.md): trailer, length classification, one visit of a
slot, and the pass. -/

namespace Sys2Proof.Machine

/-- Step 1 (R202): the trailer of this frame and the state after the draw. A trailer the environment
fixed is used as it is; otherwise the next one is drawn (log 3). -/
def State.drawTrailer (s : State) (draw : Option Trailer) : Trailer × State :=
  match draw with
  | some t => (t, s)
  | none => (Config.rxTrailer s.draws, { s with draws := s.draws + 1 })

/-- Steps 2 and 3 (R203, R204): `total` and the error flags `err` of a frame of `len` bytes under the
maximum frame length `maxLen`. TR is `0x0001`, LG is `0x0020`. -/
def rxClassify (len maxLen : Nat) : Nat × Half :=
  if len + 4 > Config.frameCap then (Config.frameCap, 0x0021)
  else if len + 4 > maxLen then (len + 4, 0x0020)
  else (len + 4, 0x0000)

/-- The delivered stream `S` of length `total`: the payload, cut where the frame is truncated, and
the trailer as its last 4 bytes (R205). -/
def rxStream (frame : List Byte) (t : Trailer) (total : Nat) : List Byte :=
  frame.take (total - 4) ++ t.bytes

/-- The descriptor a filled slot is handed back with: E clear, the chunk's length, and on the final
slot L and the accumulated errors (R209). -/
def rxFilled (d : Desc) (chunk : Nat) (final : Bool) (err : Half) : Desc :=
  { flags := if final then d.release.flags ||| err ||| 0x0800 else d.release.flags
    length := BitVec.ofNat 16 chunk
    buffer := d.buffer }

/-- Steps 4b to 4f on a slot whose empty bit is set (R207 to R211), `rest` being the bytes of `S` not
yet delivered: the bytes still to deliver after it, and the state. The order is that of R216. -/
def State.rxSlot (s : State) (addr : Word) (d : Desc) (rest : List Byte) (err : Half) :
    List Byte × State :=
  let chunk := min rest.length s.bufferMax
  let rest' := rest.drop chunk
  let s1 := s.writeBytes d.buffer (rest.take chunk)
  let s2 := s1.raise (if rest'.isEmpty then rxf else rxb)
  (rest', s2.encodeDesc (rxFilled d chunk rest'.isEmpty err) addr)

/-- The loop of the receive pass over at most `n` more slots: the address it stopped at and the state
(R213). A slot that is not empty while bytes remain loses the end of the frame (R206). -/
def State.rxLoop : Nat → Word → List Byte → Half → State → Word × State
  | 0, addr, _, _, s => (addr, s)
  | n + 1, addr, rest, err, s =>
    if rest.isEmpty then (addr, s)
    else if (s.decodeDesc addr).owned then
      let r := s.rxSlot addr (s.decodeDesc addr) rest err
      State.rxLoop n
        ((rxFilled (s.decodeDesc addr) (min rest.length s.bufferMax) r.1.isEmpty err).next addr
          r.2.erdsr)
        r.1 err r.2
    else (addr, s.note (.lostEndOfFrame addr))

/-- Step 5, exit, but for the `UPDATE()` (R212): the cursor moves and `rx_enabled` is re-derived from
the slot there. -/
def State.rxExit (s : State) (addr : Word) : State :=
  { s with rxCursor := addr, rxEnabled := (s.decodeDesc addr).owned }

/-- `RECEIVE(frame)`, the whole pass, ending with `UPDATE()` (R213). It tests neither `rx_enabled` nor
ETHER_EN (R201) and filters no address (R215). -/
def State.rxPass (s : State) (frame : List Byte) (draw : Option Trailer) : State :=
  let t := s.drawTrailer draw
  let c := rxClassify frame.length s.maxFrame
  let r := State.rxLoop Config.visitLimit s.rxCursor (rxStream frame t.1 c.1) c.2 t.2
  ((r.2.rxExit r.1).reply .none).update

end Sys2Proof.Machine
end

