-- ==== Sys2Proof/Machine/Reset.lean ====
section
/-! DEFINITION. Construction and software reset (70_reset_and_hazards.md R300, R301). -/

namespace Sys2Proof.Machine

/-- `CONSTRUCT(params)` (R300): the initial state of the block. Guest memory is not the block's and
stays, as do the events still to happen and the count of draws (log 13). -/
def State.construct (s : State) (p : Params) : State where
  params := p
  eir := 0x00000000
  eimr := 0x00000000
  ecr := 0x00000000
  mmfr := 0x00000000
  mscr := 0x00000000
  rcr := 0x05EE0001
  tcr := 0x00000000
  tfwr := 0x00000000
  rfsr := 0x00000500
  erdsr := 0x00000000
  etdsr := 0x00000000
  emrbr := 0x00000000
  gask0 := 0x00000000
  gask1 := 0x00000000
  mac := p.mac0
  txCursor := 0x00000000
  rxCursor := 0x00000000
  rxEnabled := false
  irqState := 0x00000000
  phy := p.phyRegReset
  linkUp := p.linkUpInit
  fatal := none
  lines := Vector.replicate 13 false
  sent := []
  log := []
  mem := s.mem
  pending := s.pending
  answer := .none
  draws := s.draws
  setLineCalls := []

/-- The registers every software reset restores (R301). -/
def State.resetCore (s : State) : State :=
  { s with
    eir := 0x00000000, eimr := 0x00000000, ecr := 0x00000000, mscr := 0x00000000
    rcr := 0x05EE0001, tcr := 0x00000000, tfwr := 0x00000000, rfsr := 0x00000500
    rxEnabled := false }

/-- The registers and cursors a software reset restores when `full_soft_reset` is true (R301). -/
def State.resetRest (s : State) : State :=
  { s with
    mmfr := 0x00000000, erdsr := 0x00000000, etdsr := 0x00000000, emrbr := 0x00000000
    gask0 := 0x00000000, gask1 := 0x00000000
    txCursor := 0x00000000, rxCursor := 0x00000000 }

/-- `SOFT_RESET()` (R301). -/
def State.softReset (s : State) : State :=
  if s.params.fullSoftReset then s.resetCore.resetRest else s.resetCore

end Sys2Proof.Machine
end

