-- ==== Sys2Proof/Machine/HostEvents.lean ====
section
/-! DEFINITION. The host events (30_encoding.md R93). -/

namespace Sys2Proof.Machine

/-- `CONSTRUCT(params)` (70_reset_and_hazards.md R300). No `SetLine` and no `UPDATE()`. -/
def execConstruct (p : Params) (s : State) : Outcome := s.perform (s.construct p)

/-- `CAN_RECEIVE()`: the cached flag; no memory is read and no state changes (43_receive.md R200). -/
def execCanReceive (s : State) : Outcome := s.perform (s.reply (.bool s.rxEnabled))

/-- `RECEIVE(frame)` (43_receive.md R201, R213). -/
def execReceive (frame : List Byte) (draw : Option Trailer) (s : State) : Outcome :=
  s.perform (s.rxPass frame draw)

/-- `SET_LINK(b)`: the PHY's link flag and nothing else; no `UPDATE()` (44_mdio_phy.md R247). -/
def execSetLink (b : Bool) (s : State) : Outcome := s.perform ({ s with linkUp := b }.reply .none)


end Sys2Proof.Machine
end

