-- ==== Sys2Proof/Machine/Mdio.lean ====
section
/-! DEFINITION. The PHY model and the MDIO dispatcher (44_mdio_phy.md). -/

namespace Sys2Proof.Machine

/-! ### PHY registers -/

/-- `phy[ra]`, the stored value (R43). -/
def State.phyStored (s : State) (ra : BitVec 5) : Half := s.phy[ra.toNat]

/-- Register 1, status: it follows the link (R242). -/
def State.phyStatus (s : State) : Half :=
  if s.linkUp then s.params.phyStatusUp else s.params.phyStatusDown

/-- Register 5, link-partner ability: the modes advertised in register 4, always agreed (R243). -/
def State.phyPartner (s : State) : Half := 0x4000 ||| (s.phyStored 4 &&& 0x01E0) ||| 0x0001

/-- Register 17, vendor diagnostic: an open function of register 4 while the link is up (R244). -/
def State.phyDiag17 (s : State) : Half :=
  if s.linkUp then Config.phyDiag17 s.params.diag (s.phyStored 4) else 0x0000

/-- Register 18, vendor diagnostic: an open function of register 4 while the link is up (R245). -/
def State.phyDiag18 (s : State) : Half :=
  if s.linkUp then Config.phyDiag18 s.params.diag (s.phyStored 4) else 0x0000

/-- `PHY_RD(ra)` (R241 to R246). -/
def State.phyRead (s : State) (ra : BitVec 5) : Half :=
  match ra.toNat with
  | 1 => s.phyStatus
  | 5 => s.phyPartner
  | 17 => s.phyDiag17
  | 18 => s.phyDiag18
  | _ => s.phyStored ra

/-- `PHY_WR(ra, data)`: storage (R240), and in register 0 the reset bit clears itself (R239). -/
def State.phyWrite (s : State) (ra : BitVec 5) (data : Half) : State :=
  { s with phy := s.phy.set ra.toNat (if ra = 0 then data &&& ~~~0x8000 else data) }

/-! ### The dispatcher -/

/-- `attached(pa)`: the one PHY answers at this bus address (R238). -/
def State.attached (s : State) (pa : BitVec 5) : Bool :=
  s.params.phyAttached && pa == s.params.phyAddr

/-- Opcode 1, write: the data goes to the PHY attached at PA, or nowhere (R234); then MII (R237). -/
def State.dispatchWrite (s : State) : State :=
  (if s.attached (framePa s.mmfr) then s.phyWrite (frameRa s.mmfr) (frameData s.mmfr) else s).raise mii

/-- The answer a read dispatch gets: all ones where no PHY is attached at PA (R235). -/
def State.mdioAnswer (s : State) : Half :=
  if s.attached (framePa s.mmfr) then s.phyRead (frameRa s.mmfr) else 0xFFFF

/-- Opcode 2, read: the answer replaces MMFR bits 15:0 (R235); then MII (R237). -/
def State.dispatchRead (s : State) : State :=
  { s with mmfr := (s.mmfr &&& 0xFFFF0000) ||| s.mdioAnswer.setWidth 32 }.raise mii

/-- Opcodes 0 and 3: a logged protocol violation (R236); then MII (R237). -/
def State.dispatchInvalid (s : State) : State := (s.note (.mdioBadOpcode s.mmfr)).raise mii

/-- `MDIO_DISPATCH()` on the stored MMFR (R233). -/
def State.mdioDispatch (s : State) : State :=
  match (frameOp s.mmfr).toNat with
  | 1 => s.dispatchWrite
  | 2 => s.dispatchRead
  | _ => s.dispatchInvalid

end Sys2Proof.Machine
end

