-- ==== Sys2Proof/Machine/MdioRequests.lean ====
section
/-! DEFINITION. The four management operations, one for each MMFR opcode (44_mdio_phy.md R233 to R237). -/

namespace Sys2Proof.Machine

/-! The management frame is the MMFR value the dispatcher works on (R233). Inside the block a dispatch
runs only in an MMFR or MSCR write (R230, R231), which calls the same operations; as a request of its
own it is the dispatch alone: no divisor test, no `UPDATE()` (log 10). -/

/-- `MDIO_INVALID0`, opcode 0 (R236, R237). -/
def execMdioInvalid0 (st : BitVec 2) (pa ra : BitVec 5) (ta : BitVec 2) (data : Half) (s : State) : Outcome :=
  s.perform (State.dispatchInvalid { s with mmfr := mmfrFrame st 0 pa ra ta data } |>.reply .none)

/-- `MDIO_WRITE`, opcode 1 (R234, R237). -/
def execMdioWrite (st : BitVec 2) (pa ra : BitVec 5) (ta : BitVec 2) (data : Half) (s : State) : Outcome :=
  s.perform (State.dispatchWrite { s with mmfr := mmfrFrame st 1 pa ra ta data } |>.reply .none)

/-- `MDIO_READ`, opcode 2 (R235, R237). -/
def execMdioRead (st : BitVec 2) (pa ra : BitVec 5) (ta : BitVec 2) (data : Half) (s : State) : Outcome :=
  s.perform (State.dispatchRead { s with mmfr := mmfrFrame st 2 pa ra ta data } |>.reply .none)

/-- `MDIO_INVALID3`, opcode 3 (R236, R237). -/
def execMdioInvalid3 (st : BitVec 2) (pa ra : BitVec 5) (ta : BitVec 2) (data : Half) (s : State) : Outcome :=
  s.perform (State.dispatchInvalid { s with mmfr := mmfrFrame st 3 pa ra ta data } |>.reply .none)


end Sys2Proof.Machine
end

