-- ==== Sys2Proof/Machine/PhyRequests.lean ====
section
/-! DEFINITION. The reads and writes of the 32 PHY registers (44_mdio_phy.md R239 to R246). -/

namespace Sys2Proof.Machine

/-! One access of the PHY model, as a dispatch makes it (R233); as a request of its own it is not routed
by a bus address (log 10). -/

/-- A PHY register read: its 16-bit answer and nothing else. -/
def State.phyReadOp (s : State) (ra : BitVec 5) : Outcome := s.perform (s.reply (.half (s.phyRead ra)))

/-- A PHY register write. -/
def State.phyWriteOp (s : State) (ra : BitVec 5) (data : Half) : Outcome :=
  s.perform ((s.phyWrite ra data).reply .none)

/-- `PHY_RD(0)` (R241). -/
def execPhyRd0 (s : State) : Outcome := s.phyReadOp 0

/-- `PHY_RD(1)` (R242). -/
def execPhyRd1 (s : State) : Outcome := s.phyReadOp 1

/-- `PHY_RD(2)` (R246). -/
def execPhyRd2 (s : State) : Outcome := s.phyReadOp 2

/-- `PHY_RD(3)` (R246). -/
def execPhyRd3 (s : State) : Outcome := s.phyReadOp 3

/-- `PHY_RD(4)` (R246). -/
def execPhyRd4 (s : State) : Outcome := s.phyReadOp 4

/-- `PHY_RD(5)` (R243). -/
def execPhyRd5 (s : State) : Outcome := s.phyReadOp 5

/-- `PHY_RD(6)` (R246). -/
def execPhyRd6 (s : State) : Outcome := s.phyReadOp 6

/-- `PHY_RD(7)` (R246). -/
def execPhyRd7 (s : State) : Outcome := s.phyReadOp 7

/-- `PHY_RD(8)` (R246). -/
def execPhyRd8 (s : State) : Outcome := s.phyReadOp 8

/-- `PHY_RD(9)` (R246). -/
def execPhyRd9 (s : State) : Outcome := s.phyReadOp 9

/-- `PHY_RD(10)` (R246). -/
def execPhyRd10 (s : State) : Outcome := s.phyReadOp 10

/-- `PHY_RD(11)` (R246). -/
def execPhyRd11 (s : State) : Outcome := s.phyReadOp 11

/-- `PHY_RD(12)` (R246). -/
def execPhyRd12 (s : State) : Outcome := s.phyReadOp 12

/-- `PHY_RD(13)` (R246). -/
def execPhyRd13 (s : State) : Outcome := s.phyReadOp 13

/-- `PHY_RD(14)` (R246). -/
def execPhyRd14 (s : State) : Outcome := s.phyReadOp 14

/-- `PHY_RD(15)` (R246). -/
def execPhyRd15 (s : State) : Outcome := s.phyReadOp 15

/-- `PHY_RD(16)` (R246). -/
def execPhyRd16 (s : State) : Outcome := s.phyReadOp 16

/-- `PHY_RD(17)` (R244). -/
def execPhyRd17 (s : State) : Outcome := s.phyReadOp 17

/-- `PHY_RD(18)` (R245). -/
def execPhyRd18 (s : State) : Outcome := s.phyReadOp 18

/-- `PHY_RD(19)` (R246). -/
def execPhyRd19 (s : State) : Outcome := s.phyReadOp 19

/-- `PHY_RD(20)` (R246). -/
def execPhyRd20 (s : State) : Outcome := s.phyReadOp 20

/-- `PHY_RD(21)` (R246). -/
def execPhyRd21 (s : State) : Outcome := s.phyReadOp 21

/-- `PHY_RD(22)` (R246). -/
def execPhyRd22 (s : State) : Outcome := s.phyReadOp 22

/-- `PHY_RD(23)` (R246). -/
def execPhyRd23 (s : State) : Outcome := s.phyReadOp 23

/-- `PHY_RD(24)` (R246). -/
def execPhyRd24 (s : State) : Outcome := s.phyReadOp 24

/-- `PHY_RD(25)` (R246). -/
def execPhyRd25 (s : State) : Outcome := s.phyReadOp 25

/-- `PHY_RD(26)` (R246). -/
def execPhyRd26 (s : State) : Outcome := s.phyReadOp 26

/-- `PHY_RD(27)` (R246). -/
def execPhyRd27 (s : State) : Outcome := s.phyReadOp 27

/-- `PHY_RD(28)` (R246). -/
def execPhyRd28 (s : State) : Outcome := s.phyReadOp 28

/-- `PHY_RD(29)` (R246). -/
def execPhyRd29 (s : State) : Outcome := s.phyReadOp 29

/-- `PHY_RD(30)` (R246). -/
def execPhyRd30 (s : State) : Outcome := s.phyReadOp 30

/-- `PHY_RD(31)` (R246). -/
def execPhyRd31 (s : State) : Outcome := s.phyReadOp 31

/-- `PHY_WR(0, data)` (R239). -/
def execPhyWr0 (data : Half) (s : State) : Outcome := s.phyWriteOp 0 data

/-- `PHY_WR(1, data)` (R240). -/
def execPhyWr1 (data : Half) (s : State) : Outcome := s.phyWriteOp 1 data

/-- `PHY_WR(2, data)` (R240). -/
def execPhyWr2 (data : Half) (s : State) : Outcome := s.phyWriteOp 2 data

/-- `PHY_WR(3, data)` (R240). -/
def execPhyWr3 (data : Half) (s : State) : Outcome := s.phyWriteOp 3 data

/-- `PHY_WR(4, data)` (R240). -/
def execPhyWr4 (data : Half) (s : State) : Outcome := s.phyWriteOp 4 data

/-- `PHY_WR(5, data)` (R240). -/
def execPhyWr5 (data : Half) (s : State) : Outcome := s.phyWriteOp 5 data

/-- `PHY_WR(6, data)` (R240). -/
def execPhyWr6 (data : Half) (s : State) : Outcome := s.phyWriteOp 6 data

/-- `PHY_WR(7, data)` (R240). -/
def execPhyWr7 (data : Half) (s : State) : Outcome := s.phyWriteOp 7 data

/-- `PHY_WR(8, data)` (R240). -/
def execPhyWr8 (data : Half) (s : State) : Outcome := s.phyWriteOp 8 data

/-- `PHY_WR(9, data)` (R240). -/
def execPhyWr9 (data : Half) (s : State) : Outcome := s.phyWriteOp 9 data

/-- `PHY_WR(10, data)` (R240). -/
def execPhyWr10 (data : Half) (s : State) : Outcome := s.phyWriteOp 10 data

/-- `PHY_WR(11, data)` (R240). -/
def execPhyWr11 (data : Half) (s : State) : Outcome := s.phyWriteOp 11 data

/-- `PHY_WR(12, data)` (R240). -/
def execPhyWr12 (data : Half) (s : State) : Outcome := s.phyWriteOp 12 data

/-- `PHY_WR(13, data)` (R240). -/
def execPhyWr13 (data : Half) (s : State) : Outcome := s.phyWriteOp 13 data

/-- `PHY_WR(14, data)` (R240). -/
def execPhyWr14 (data : Half) (s : State) : Outcome := s.phyWriteOp 14 data

/-- `PHY_WR(15, data)` (R240). -/
def execPhyWr15 (data : Half) (s : State) : Outcome := s.phyWriteOp 15 data

/-- `PHY_WR(16, data)` (R240). -/
def execPhyWr16 (data : Half) (s : State) : Outcome := s.phyWriteOp 16 data

/-- `PHY_WR(17, data)` (R240). -/
def execPhyWr17 (data : Half) (s : State) : Outcome := s.phyWriteOp 17 data

/-- `PHY_WR(18, data)` (R240). -/
def execPhyWr18 (data : Half) (s : State) : Outcome := s.phyWriteOp 18 data

/-- `PHY_WR(19, data)` (R240). -/
def execPhyWr19 (data : Half) (s : State) : Outcome := s.phyWriteOp 19 data

/-- `PHY_WR(20, data)` (R240). -/
def execPhyWr20 (data : Half) (s : State) : Outcome := s.phyWriteOp 20 data

/-- `PHY_WR(21, data)` (R240). -/
def execPhyWr21 (data : Half) (s : State) : Outcome := s.phyWriteOp 21 data

/-- `PHY_WR(22, data)` (R240). -/
def execPhyWr22 (data : Half) (s : State) : Outcome := s.phyWriteOp 22 data

/-- `PHY_WR(23, data)` (R240). -/
def execPhyWr23 (data : Half) (s : State) : Outcome := s.phyWriteOp 23 data

/-- `PHY_WR(24, data)` (R240). -/
def execPhyWr24 (data : Half) (s : State) : Outcome := s.phyWriteOp 24 data

/-- `PHY_WR(25, data)` (R240). -/
def execPhyWr25 (data : Half) (s : State) : Outcome := s.phyWriteOp 25 data

/-- `PHY_WR(26, data)` (R240). -/
def execPhyWr26 (data : Half) (s : State) : Outcome := s.phyWriteOp 26 data

/-- `PHY_WR(27, data)` (R240). -/
def execPhyWr27 (data : Half) (s : State) : Outcome := s.phyWriteOp 27 data

/-- `PHY_WR(28, data)` (R240). -/
def execPhyWr28 (data : Half) (s : State) : Outcome := s.phyWriteOp 28 data

/-- `PHY_WR(29, data)` (R240). -/
def execPhyWr29 (data : Half) (s : State) : Outcome := s.phyWriteOp 29 data

/-- `PHY_WR(30, data)` (R240). -/
def execPhyWr30 (data : Half) (s : State) : Outcome := s.phyWriteOp 30 data

/-- `PHY_WR(31, data)` (R240). -/
def execPhyWr31 (data : Half) (s : State) : Outcome := s.phyWriteOp 31 data


end Sys2Proof.Machine
end

