-- ==== Sys2Proof/Machine/Transmit.lean ====
section
/-! DEFINITION. The transmit engine (42_transmit.md): one visit of a slot, and the pass. -/

namespace Sys2Proof.Machine

/-- Step 2, gather with clamp (R183): the accumulation buffer and the state after it. -/
def State.txGather (s : State) (d : Desc) (acc : List Byte) : List Byte × State :=
  if acc.length + d.length.toNat > Config.frameCap then
    (acc ++ s.readBytes d.buffer (Config.frameCap - acc.length), s.raise babt)
  else (acc ++ s.readBytes d.buffer d.length.toNat, s)

/-- Step 3, end of frame (R184): on L the buffer is sent and emptied, and TXF is set. -/
def State.txEndOfFrame (s : State) (d : Desc) (acc : List Byte) : List Byte × State :=
  if d.last then ([], (s.send acc).raise txf) else (acc, s)

/-- Steps 2 to 5 on a slot whose ready bit is set: gather, end of frame, TXB, hand back
(R183 to R186), in the order of R191. -/
def State.txSlot (s : State) (addr : Word) (d : Desc) (acc : List Byte) : List Byte × State :=
  let g := s.txGather d acc
  let f := g.2.txEndOfFrame d g.1
  (f.1, (f.2.raise txb).encodeDesc d.release addr)

/-- The loop of `TX_PASS()` over at most `n` more slots: the address it stopped at and the state
(R190). The accumulation buffer is dropped (R189). -/
def State.txLoop : Nat → Word → List Byte → State → Word × State
  | 0, addr, _, s => (addr, s)
  | n + 1, addr, acc, s =>
    if (s.decodeDesc addr).owned then
      let r := s.txSlot addr (s.decodeDesc addr) acc
      State.txLoop n ((s.decodeDesc addr).release.next addr r.2.etdsr) r.1 r.2
    else (addr, s)

/-- How many slots a transmit pass may fetch: `max_desc_per_pass`, or the bound that no pass reaches
(R188; log 14). -/
def State.txLimit (s : State) : Nat :=
  match s.params.maxDescPerPass with
  | some m => m
  | none => Config.visitLimit

/-- `TX_PASS()` (R190). -/
def State.txPass (s : State) : State :=
  let r := State.txLoop s.txLimit s.txCursor [] s
  { r.2 with txCursor := r.1 }

end Sys2Proof.Machine
end

