-- ==== Sys2Proof/Machine/RegActive.lean ====
section
/-! DEFINITION. RDAR and TDAR, the descriptor-active registers (40_register_file.md R106 to R109). -/

namespace Sys2Proof.Machine

/-- The read view of RDAR: bit 24 is `rx_enabled` (R37, R106). -/
def State.rdarView (s : State) : Word := if s.rxEnabled then 0x01000000 else 0x00000000

/-- `RDAR_RD` (R106). -/
def execRdarRd (s : State) : Outcome := s.busRead s.rdarView

/-- The receive re-arm: with ETHER_EN set and `rx_enabled` false, `rx_enabled` becomes the ownership
bit of the slot at `rx_cursor` (R107). -/
def State.rearm (s : State) : State :=
  if s.etherEn && !s.rxEnabled then { s with rxEnabled := (s.decodeDesc s.rxCursor).owned } else s

/-- `RDAR_WR`; the value is ignored (R107). -/
def execRdarWr (_v : Word) (s : State) : Outcome :=
  s.busWrite s.rearm

/-- `TDAR_RD` (R108). -/
def execTdarRd (s : State) : Outcome := s.busRead 0x00000000

/-- The transmit request: with ETHER_EN set a pass runs, unless `tdar_requires_bit24` is set and bit
24 of the value is 0 (R109). -/
def State.transmitRequest (s : State) (v : Word) : State :=
  if s.etherEn && (!s.params.tdarRequiresBit24 || v.getLsbD 24) then s.txPass else s

/-- `TDAR_WR` (R109). -/
def execTdarWr (v : Word) (s : State) : Outcome :=
  s.busWrite (s.transmitRequest v)


end Sys2Proof.Machine
end

