-- ==== Sys2Proof/Machine/RegControl.lean ====
section
/-! DEFINITION. ECR, enable and reset control (40_register_file.md R110, R111). -/

namespace Sys2Proof.Machine

/-- `ECR_RD` (R110). -/
def execEcrRd (s : State) : Outcome := s.busRead s.ecr

/-- What an ECR write does: the value is stored, bit 0 runs the software reset (which leaves ECR 0),
and with ETHER_EN 0 afterwards receive is disabled (R111). -/
def State.ecrWrite (s : State) (v : Word) : State :=
  let s1 := { s with ecr := v }
  let s2 := if v.getLsbD 0 then s1.softReset else s1
  if s2.etherEn then s2 else { s2 with rxEnabled := false }

/-- `ECR_WR` (R111). -/
def execEcrWr (v : Word) (s : State) : Outcome :=
  s.busWrite (s.ecrWrite v)


end Sys2Proof.Machine
end

