-- ==== Sys2Proof/Machine/RegEvents.lean ====
section
/-! DEFINITION. EIR and EIMR, the event flags and their mask (40_register_file.md R102 to R105). -/

namespace Sys2Proof.Machine

/-- `EIR_RD` (R102). -/
def execEirRd (s : State) : Outcome := s.busRead s.eir

/-- `EIR_WR`, write-1-to-clear: `reg.eir <- reg.eir & ~v` (R103). -/
def execEirWr (v : Word) (s : State) : Outcome :=
  s.busWrite { s with eir := s.eir &&& ~~~v }

/-- `EIMR_RD` (R104). -/
def execEimrRd (s : State) : Outcome := s.busRead s.eimr

/-- `EIMR_WR` (R105). -/
def execEimrWr (v : Word) (s : State) : Outcome :=
  s.busWrite { s with eimr := v }


end Sys2Proof.Machine
end

