-- ==== Sys2Proof/Machine/RegFifo.lean ====
section
/-! DEFINITION. TFWR, FRBR and RFSR, the FIFO registers (40_register_file.md R136 to R141). -/

namespace Sys2Proof.Machine

/-- `TFWR_RD` (R136). -/
def execTfwrRd (s : State) : Outcome := s.busRead s.tfwr

/-- `TFWR_WR` (R137). -/
def execTfwrWr (v : Word) (s : State) : Outcome :=
  s.busWrite { s with tfwr := tfwrStored v }

/-- `FRBR_RD` (R138). -/
def execFrbrRd (s : State) : Outcome := s.busRead 0x00000600

/-- `FRBR_WR`: the value is dropped without a log (R139). -/
def execFrbrWr (_v : Word) (s : State) : Outcome :=
  s.busWrite s

/-- `RFSR_RD` (R140). -/
def execRfsrRd (s : State) : Outcome := s.busRead s.rfsr

/-- `RFSR_WR` (R141). -/
def execRfsrWr (v : Word) (s : State) : Outcome :=
  s.busWrite { s with rfsr := rfsrStored v }


end Sys2Proof.Machine
end

