-- ==== Sys2Proof/Machine/RegGasket.lean ====
section
/-! DEFINITION. GASK0 and GASK1, the gasket registers (40_register_file.md R150 to R153). -/

namespace Sys2Proof.Machine

/-- `GASK0_RD` (R150). -/
def execGask0Rd (s : State) : Outcome := s.busRead s.gask0

/-- `GASK0_WR` (R151). -/
def execGask0Wr (v : Word) (s : State) : Outcome :=
  s.busWrite { s with gask0 := v }

/-- `GASK1_RD` (R152). -/
def execGask1Rd (s : State) : Outcome := s.busRead s.gask1

/-- `GASK1_WR` (R153). -/
def execGask1Wr (v : Word) (s : State) : Outcome :=
  s.busWrite { s with gask1 := v }


end Sys2Proof.Machine
end

