-- ==== Sys2Proof/Machine/RegHash.lean ====
section
/-! DEFINITION. IAUR, IALR, GAUR and GALR, the hash filter stubs (40_register_file.md R128 to R135). -/

namespace Sys2Proof.Machine

/-- A write of a hash filter register: it is logged and stores nothing (R129). -/
def State.hashStub (s : State) (off : BitVec 10) (v : Word) : State :=
  s.note (.hashFilterUnsupported off v)

/-- `IAUR_RD` (R128). -/
def execIaurRd (s : State) : Outcome := s.busRead 0x00000000

/-- `IAUR_WR` (R129). -/
def execIaurWr (v : Word) (s : State) : Outcome :=
  s.busWrite (s.hashStub 0x118 v)

/-- `IALR_RD` (R130). -/
def execIalrRd (s : State) : Outcome := s.busRead 0x00000000

/-- `IALR_WR` (R131). -/
def execIalrWr (v : Word) (s : State) : Outcome :=
  s.busWrite (s.hashStub 0x11C v)

/-- `GAUR_RD` (R132). -/
def execGaurRd (s : State) : Outcome := s.busRead 0x00000000

/-- `GAUR_WR` (R133). -/
def execGaurWr (v : Word) (s : State) : Outcome :=
  s.busWrite (s.hashStub 0x120 v)

/-- `GALR_RD` (R134). -/
def execGalrRd (s : State) : Outcome := s.busRead 0x00000000

/-- `GALR_WR` (R135). -/
def execGalrWr (v : Word) (s : State) : Outcome :=
  s.busWrite (s.hashStub 0x124 v)


end Sys2Proof.Machine
end

