-- ==== Sys2Proof/Machine/RegManagement.lean ====
section
/-! DEFINITION. MMFR and MSCR, the management bus registers (40_register_file.md R112 to R115). -/

namespace Sys2Proof.Machine

/-- `MMFR_RD` (R112). -/
def execMmfrRd (s : State) : Outcome := s.busRead s.mmfr

/-- What an MMFR write does: the value is stored, and with a non-zero divisor it is dispatched
(R113, 44_mdio_phy.md R230). -/
def State.mmfrWrite (s : State) (v : Word) : State :=
  let s1 := { s with mmfr := v }
  if s1.divisor ≠ 0 then s1.mdioDispatch else s1

/-- `MMFR_WR` (R113). -/
def execMmfrWr (v : Word) (s : State) : Outcome :=
  s.busWrite (s.mmfrWrite v)

/-- `MSCR_RD` (R114). -/
def execMscrRd (s : State) : Outcome := s.busRead s.mscr

/-- What an MSCR write does: the masked value is stored, and where the divisor goes from zero to
non-zero the MMFR value already stored is dispatched (R115, 44_mdio_phy.md R231). -/
def State.mscrWrite (s : State) (v : Word) : State :=
  let s1 := { s with mscr := mscrStored v }
  if s.divisor = 0 ∧ s1.divisor ≠ 0 then s1.mdioDispatch else s1

/-- `MSCR_WR` (R115). -/
def execMscrWr (v : Word) (s : State) : Outcome :=
  s.busWrite (s.mscrWrite v)


end Sys2Proof.Machine
end

