-- ==== Sys2Proof/Machine/RegMib.lean ====
section
/-! DEFINITION. MIBC and the MIB counter words, stubs (40_register_file.md R116, R117, R148, R149). -/

namespace Sys2Proof.Machine

/-- `MIBC_RD` (R116). -/
def execMibcRd (s : State) : Outcome := s.busRead 0x00000000

/-- A write of MIBC or of a MIB word: it is logged and stores nothing (R117, R149). -/
def State.mibStub (s : State) (off : BitVec 10) (v : Word) : State := s.note (.mibUnsupported off v)

/-- A read of a MIB word: the counters never count (R148). -/
def State.mibCount (_s : State) : Word := 0x00000000

/-- `MIBC_WR` (R117). -/
def execMibcWr (v : Word) (s : State) : Outcome :=
  s.busWrite (s.mibStub 0x064 v)

/-- `MIB0_RD` (R148). -/
def execMib0Rd (s : State) : Outcome := s.busRead s.mibCount

/-- `MIB0_WR` (R149). -/
def execMib0Wr (v : Word) (s : State) : Outcome :=
  s.busWrite (s.mibStub 0x200 v)

/-- `MIB1_RD` (R148). -/
def execMib1Rd (s : State) : Outcome := s.busRead s.mibCount

/-- `MIB1_WR` (R149). -/
def execMib1Wr (v : Word) (s : State) : Outcome :=
  s.busWrite (s.mibStub 0x204 v)

/-- `MIB2_RD` (R148). -/
def execMib2Rd (s : State) : Outcome := s.busRead s.mibCount

/-- `MIB2_WR` (R149). -/
def execMib2Wr (v : Word) (s : State) : Outcome :=
  s.busWrite (s.mibStub 0x208 v)

/-- `MIB3_RD` (R148). -/
def execMib3Rd (s : State) : Outcome := s.busRead s.mibCount

/-- `MIB3_WR` (R149). -/
def execMib3Wr (v : Word) (s : State) : Outcome :=
  s.busWrite (s.mibStub 0x20C v)

/-- `MIB4_RD` (R148). -/
def execMib4Rd (s : State) : Outcome := s.busRead s.mibCount

/-- `MIB4_WR` (R149). -/
def execMib4Wr (v : Word) (s : State) : Outcome :=
  s.busWrite (s.mibStub 0x210 v)

/-- `MIB5_RD` (R148). -/
def execMib5Rd (s : State) : Outcome := s.busRead s.mibCount

/-- `MIB5_WR` (R149). -/
def execMib5Wr (v : Word) (s : State) : Outcome :=
  s.busWrite (s.mibStub 0x214 v)

/-- `MIB6_RD` (R148). -/
def execMib6Rd (s : State) : Outcome := s.busRead s.mibCount

/-- `MIB6_WR` (R149). -/
def execMib6Wr (v : Word) (s : State) : Outcome :=
  s.busWrite (s.mibStub 0x218 v)

/-- `MIB7_RD` (R148). -/
def execMib7Rd (s : State) : Outcome := s.busRead s.mibCount

/-- `MIB7_WR` (R149). -/
def execMib7Wr (v : Word) (s : State) : Outcome :=
  s.busWrite (s.mibStub 0x21C v)

/-- `MIB8_RD` (R148). -/
def execMib8Rd (s : State) : Outcome := s.busRead s.mibCount

/-- `MIB8_WR` (R149). -/
def execMib8Wr (v : Word) (s : State) : Outcome :=
  s.busWrite (s.mibStub 0x220 v)

/-- `MIB9_RD` (R148). -/
def execMib9Rd (s : State) : Outcome := s.busRead s.mibCount

/-- `MIB9_WR` (R149). -/
def execMib9Wr (v : Word) (s : State) : Outcome :=
  s.busWrite (s.mibStub 0x224 v)

/-- `MIB10_RD` (R148). -/
def execMib10Rd (s : State) : Outcome := s.busRead s.mibCount

/-- `MIB10_WR` (R149). -/
def execMib10Wr (v : Word) (s : State) : Outcome :=
  s.busWrite (s.mibStub 0x228 v)

/-- `MIB11_RD` (R148). -/
def execMib11Rd (s : State) : Outcome := s.busRead s.mibCount

/-- `MIB11_WR` (R149). -/
def execMib11Wr (v : Word) (s : State) : Outcome :=
  s.busWrite (s.mibStub 0x22C v)

/-- `MIB12_RD` (R148). -/
def execMib12Rd (s : State) : Outcome := s.busRead s.mibCount

/-- `MIB12_WR` (R149). -/
def execMib12Wr (v : Word) (s : State) : Outcome :=
  s.busWrite (s.mibStub 0x230 v)

/-- `MIB13_RD` (R148). -/
def execMib13Rd (s : State) : Outcome := s.busRead s.mibCount

/-- `MIB13_WR` (R149). -/
def execMib13Wr (v : Word) (s : State) : Outcome :=
  s.busWrite (s.mibStub 0x234 v)

/-- `MIB14_RD` (R148). -/
def execMib14Rd (s : State) : Outcome := s.busRead s.mibCount

/-- `MIB14_WR` (R149). -/
def execMib14Wr (v : Word) (s : State) : Outcome :=
  s.busWrite (s.mibStub 0x238 v)

/-- `MIB15_RD` (R148). -/
def execMib15Rd (s : State) : Outcome := s.busRead s.mibCount

/-- `MIB15_WR` (R149). -/
def execMib15Wr (v : Word) (s : State) : Outcome :=
  s.busWrite (s.mibStub 0x23C v)

/-- `MIB16_RD` (R148). -/
def execMib16Rd (s : State) : Outcome := s.busRead s.mibCount

/-- `MIB16_WR` (R149). -/
def execMib16Wr (v : Word) (s : State) : Outcome :=
  s.busWrite (s.mibStub 0x240 v)

/-- `MIB17_RD` (R148). -/
def execMib17Rd (s : State) : Outcome := s.busRead s.mibCount

/-- `MIB17_WR` (R149). -/
def execMib17Wr (v : Word) (s : State) : Outcome :=
  s.busWrite (s.mibStub 0x244 v)

/-- `MIB18_RD` (R148). -/
def execMib18Rd (s : State) : Outcome := s.busRead s.mibCount

/-- `MIB18_WR` (R149). -/
def execMib18Wr (v : Word) (s : State) : Outcome :=
  s.busWrite (s.mibStub 0x248 v)

/-- `MIB19_RD` (R148). -/
def execMib19Rd (s : State) : Outcome := s.busRead s.mibCount

/-- `MIB19_WR` (R149). -/
def execMib19Wr (v : Word) (s : State) : Outcome :=
  s.busWrite (s.mibStub 0x24C v)

/-- `MIB20_RD` (R148). -/
def execMib20Rd (s : State) : Outcome := s.busRead s.mibCount

/-- `MIB20_WR` (R149). -/
def execMib20Wr (v : Word) (s : State) : Outcome :=
  s.busWrite (s.mibStub 0x250 v)

/-- `MIB21_RD` (R148). -/
def execMib21Rd (s : State) : Outcome := s.busRead s.mibCount

/-- `MIB21_WR` (R149). -/
def execMib21Wr (v : Word) (s : State) : Outcome :=
  s.busWrite (s.mibStub 0x254 v)

/-- `MIB22_RD` (R148). -/
def execMib22Rd (s : State) : Outcome := s.busRead s.mibCount

/-- `MIB22_WR` (R149). -/
def execMib22Wr (v : Word) (s : State) : Outcome :=
  s.busWrite (s.mibStub 0x258 v)

/-- `MIB23_RD` (R148). -/
def execMib23Rd (s : State) : Outcome := s.busRead s.mibCount

/-- `MIB23_WR` (R149). -/
def execMib23Wr (v : Word) (s : State) : Outcome :=
  s.busWrite (s.mibStub 0x25C v)

/-- `MIB24_RD` (R148). -/
def execMib24Rd (s : State) : Outcome := s.busRead s.mibCount

/-- `MIB24_WR` (R149). -/
def execMib24Wr (v : Word) (s : State) : Outcome :=
  s.busWrite (s.mibStub 0x260 v)

/-- `MIB25_RD` (R148). -/
def execMib25Rd (s : State) : Outcome := s.busRead s.mibCount

/-- `MIB25_WR` (R149). -/
def execMib25Wr (v : Word) (s : State) : Outcome :=
  s.busWrite (s.mibStub 0x264 v)

/-- `MIB26_RD` (R148). -/
def execMib26Rd (s : State) : Outcome := s.busRead s.mibCount

/-- `MIB26_WR` (R149). -/
def execMib26Wr (v : Word) (s : State) : Outcome :=
  s.busWrite (s.mibStub 0x268 v)

/-- `MIB27_RD` (R148). -/
def execMib27Rd (s : State) : Outcome := s.busRead s.mibCount

/-- `MIB27_WR` (R149). -/
def execMib27Wr (v : Word) (s : State) : Outcome :=
  s.busWrite (s.mibStub 0x26C v)

/-- `MIB28_RD` (R148). -/
def execMib28Rd (s : State) : Outcome := s.busRead s.mibCount

/-- `MIB28_WR` (R149). -/
def execMib28Wr (v : Word) (s : State) : Outcome :=
  s.busWrite (s.mibStub 0x270 v)

/-- `MIB29_RD` (R148). -/
def execMib29Rd (s : State) : Outcome := s.busRead s.mibCount

/-- `MIB29_WR` (R149). -/
def execMib29Wr (v : Word) (s : State) : Outcome :=
  s.busWrite (s.mibStub 0x274 v)

/-- `MIB30_RD` (R148). -/
def execMib30Rd (s : State) : Outcome := s.busRead s.mibCount

/-- `MIB30_WR` (R149). -/
def execMib30Wr (v : Word) (s : State) : Outcome :=
  s.busWrite (s.mibStub 0x278 v)

/-- `MIB31_RD` (R148). -/
def execMib31Rd (s : State) : Outcome := s.busRead s.mibCount

/-- `MIB31_WR` (R149). -/
def execMib31Wr (v : Word) (s : State) : Outcome :=
  s.busWrite (s.mibStub 0x27C v)

/-- `MIB32_RD` (R148). -/
def execMib32Rd (s : State) : Outcome := s.busRead s.mibCount

/-- `MIB32_WR` (R149). -/
def execMib32Wr (v : Word) (s : State) : Outcome :=
  s.busWrite (s.mibStub 0x280 v)

/-- `MIB33_RD` (R148). -/
def execMib33Rd (s : State) : Outcome := s.busRead s.mibCount

/-- `MIB33_WR` (R149). -/
def execMib33Wr (v : Word) (s : State) : Outcome :=
  s.busWrite (s.mibStub 0x284 v)

/-- `MIB34_RD` (R148). -/
def execMib34Rd (s : State) : Outcome := s.busRead s.mibCount

/-- `MIB34_WR` (R149). -/
def execMib34Wr (v : Word) (s : State) : Outcome :=
  s.busWrite (s.mibStub 0x288 v)

/-- `MIB35_RD` (R148). -/
def execMib35Rd (s : State) : Outcome := s.busRead s.mibCount

/-- `MIB35_WR` (R149). -/
def execMib35Wr (v : Word) (s : State) : Outcome :=
  s.busWrite (s.mibStub 0x28C v)

/-- `MIB36_RD` (R148). -/
def execMib36Rd (s : State) : Outcome := s.busRead s.mibCount

/-- `MIB36_WR` (R149). -/
def execMib36Wr (v : Word) (s : State) : Outcome :=
  s.busWrite (s.mibStub 0x290 v)

/-- `MIB37_RD` (R148). -/
def execMib37Rd (s : State) : Outcome := s.busRead s.mibCount

/-- `MIB37_WR` (R149). -/
def execMib37Wr (v : Word) (s : State) : Outcome :=
  s.busWrite (s.mibStub 0x294 v)

/-- `MIB38_RD` (R148). -/
def execMib38Rd (s : State) : Outcome := s.busRead s.mibCount

/-- `MIB38_WR` (R149). -/
def execMib38Wr (v : Word) (s : State) : Outcome :=
  s.busWrite (s.mibStub 0x298 v)

/-- `MIB39_RD` (R148). -/
def execMib39Rd (s : State) : Outcome := s.busRead s.mibCount

/-- `MIB39_WR` (R149). -/
def execMib39Wr (v : Word) (s : State) : Outcome :=
  s.busWrite (s.mibStub 0x29C v)

/-- `MIB40_RD` (R148). -/
def execMib40Rd (s : State) : Outcome := s.busRead s.mibCount

/-- `MIB40_WR` (R149). -/
def execMib40Wr (v : Word) (s : State) : Outcome :=
  s.busWrite (s.mibStub 0x2A0 v)

/-- `MIB41_RD` (R148). -/
def execMib41Rd (s : State) : Outcome := s.busRead s.mibCount

/-- `MIB41_WR` (R149). -/
def execMib41Wr (v : Word) (s : State) : Outcome :=
  s.busWrite (s.mibStub 0x2A4 v)

/-- `MIB42_RD` (R148). -/
def execMib42Rd (s : State) : Outcome := s.busRead s.mibCount

/-- `MIB42_WR` (R149). -/
def execMib42Wr (v : Word) (s : State) : Outcome :=
  s.busWrite (s.mibStub 0x2A8 v)

/-- `MIB43_RD` (R148). -/
def execMib43Rd (s : State) : Outcome := s.busRead s.mibCount

/-- `MIB43_WR` (R149). -/
def execMib43Wr (v : Word) (s : State) : Outcome :=
  s.busWrite (s.mibStub 0x2AC v)

/-- `MIB44_RD` (R148). -/
def execMib44Rd (s : State) : Outcome := s.busRead s.mibCount

/-- `MIB44_WR` (R149). -/
def execMib44Wr (v : Word) (s : State) : Outcome :=
  s.busWrite (s.mibStub 0x2B0 v)

/-- `MIB45_RD` (R148). -/
def execMib45Rd (s : State) : Outcome := s.busRead s.mibCount

/-- `MIB45_WR` (R149). -/
def execMib45Wr (v : Word) (s : State) : Outcome :=
  s.busWrite (s.mibStub 0x2B4 v)

/-- `MIB46_RD` (R148). -/
def execMib46Rd (s : State) : Outcome := s.busRead s.mibCount

/-- `MIB46_WR` (R149). -/
def execMib46Wr (v : Word) (s : State) : Outcome :=
  s.busWrite (s.mibStub 0x2B8 v)

/-- `MIB47_RD` (R148). -/
def execMib47Rd (s : State) : Outcome := s.busRead s.mibCount

/-- `MIB47_WR` (R149). -/
def execMib47Wr (v : Word) (s : State) : Outcome :=
  s.busWrite (s.mibStub 0x2BC v)

/-- `MIB48_RD` (R148). -/
def execMib48Rd (s : State) : Outcome := s.busRead s.mibCount

/-- `MIB48_WR` (R149). -/
def execMib48Wr (v : Word) (s : State) : Outcome :=
  s.busWrite (s.mibStub 0x2C0 v)

/-- `MIB49_RD` (R148). -/
def execMib49Rd (s : State) : Outcome := s.busRead s.mibCount

/-- `MIB49_WR` (R149). -/
def execMib49Wr (v : Word) (s : State) : Outcome :=
  s.busWrite (s.mibStub 0x2C4 v)

/-- `MIB50_RD` (R148). -/
def execMib50Rd (s : State) : Outcome := s.busRead s.mibCount

/-- `MIB50_WR` (R149). -/
def execMib50Wr (v : Word) (s : State) : Outcome :=
  s.busWrite (s.mibStub 0x2C8 v)

/-- `MIB51_RD` (R148). -/
def execMib51Rd (s : State) : Outcome := s.busRead s.mibCount

/-- `MIB51_WR` (R149). -/
def execMib51Wr (v : Word) (s : State) : Outcome :=
  s.busWrite (s.mibStub 0x2CC v)

/-- `MIB52_RD` (R148). -/
def execMib52Rd (s : State) : Outcome := s.busRead s.mibCount

/-- `MIB52_WR` (R149). -/
def execMib52Wr (v : Word) (s : State) : Outcome :=
  s.busWrite (s.mibStub 0x2D0 v)

/-- `MIB53_RD` (R148). -/
def execMib53Rd (s : State) : Outcome := s.busRead s.mibCount

/-- `MIB53_WR` (R149). -/
def execMib53Wr (v : Word) (s : State) : Outcome :=
  s.busWrite (s.mibStub 0x2D4 v)

/-- `MIB54_RD` (R148). -/
def execMib54Rd (s : State) : Outcome := s.busRead s.mibCount

/-- `MIB54_WR` (R149). -/
def execMib54Wr (v : Word) (s : State) : Outcome :=
  s.busWrite (s.mibStub 0x2D8 v)

/-- `MIB55_RD` (R148). -/
def execMib55Rd (s : State) : Outcome := s.busRead s.mibCount

/-- `MIB55_WR` (R149). -/
def execMib55Wr (v : Word) (s : State) : Outcome :=
  s.busWrite (s.mibStub 0x2DC v)

/-- `MIB56_RD` (R148). -/
def execMib56Rd (s : State) : Outcome := s.busRead s.mibCount

/-- `MIB56_WR` (R149). -/
def execMib56Wr (v : Word) (s : State) : Outcome :=
  s.busWrite (s.mibStub 0x2E0 v)


end Sys2Proof.Machine
end

