-- ==== Sys2Proof/Machine/RegMode.lean ====
section
/-! DEFINITION. RCR and TCR, receive and transmit control (40_register_file.md R118 to R121). -/

namespace Sys2Proof.Machine

/-- `RCR_RD` (R118). -/
def execRcrRd (s : State) : Outcome := s.busRead s.rcr

/-- What an RCR write does: the masked value is stored, and LOOP = 1 is logged (R119). -/
def State.rcrWrite (s : State) (v : Word) : State :=
  let s1 := { s with rcr := rcrStored v }
  if v.getLsbD 0 then s1.note (.loopbackUnsupported v) else s1

/-- `RCR_WR` (R119). -/
def execRcrWr (v : Word) (s : State) : Outcome :=
  s.busWrite (s.rcrWrite v)

/-- `TCR_RD` (R120). -/
def execTcrRd (s : State) : Outcome := s.busRead s.tcr

/-- What a TCR write does: the value is stored, and bit 0 (GTS) sets GRA at once (R121). -/
def State.tcrWrite (s : State) (v : Word) : State :=
  let s1 := { s with tcr := v }
  if v.getLsbD 0 then s1.raise gra else s1

/-- `TCR_WR` (R121). -/
def execTcrWr (v : Word) (s : State) : Outcome :=
  s.busWrite (s.tcrWrite v)


end Sys2Proof.Machine
end

