-- ==== Sys2Proof/Machine/RegRing.lean ====
section
/-! DEFINITION. ERDSR, ETDSR and EMRBR: ring bases and buffer size (40_register_file.md R142 to R147). -/

namespace Sys2Proof.Machine

/-- `ERDSR_RD` (R142). -/
def execErdsrRd (s : State) : Outcome := s.busRead s.erdsr

/-- `ERDSR_WR`: the base, and the cursor with it; `rx_cursor <- erdsr` (R143). -/
def execErdsrWr (v : Word) (s : State) : Outcome :=
  s.busWrite { s with erdsr := s.ringBase v, rxCursor := s.ringBase v }

/-- `ETDSR_RD` (R144). -/
def execEtdsrRd (s : State) : Outcome := s.busRead s.etdsr

/-- `ETDSR_WR`: the base, and the cursor with it; `tx_cursor <- etdsr` (R145). -/
def execEtdsrWr (v : Word) (s : State) : Outcome :=
  s.busWrite { s with etdsr := s.ringBase v, txCursor := s.ringBase v }

/-- `EMRBR_RD` (R146). -/
def execEmrbrRd (s : State) : Outcome := s.busRead s.emrbr

/-- `EMRBR_WR` (R147). -/
def execEmrbrWr (v : Word) (s : State) : Outcome :=
  s.busWrite { s with emrbr := emrbrStored v }


end Sys2Proof.Machine
end

