-- ==== Sys2Proof/Machine/RegStation.lean ====
section
/-! DEFINITION. PALR, PAUR and OPD: the station address, and the constant OPD (40_register_file.md R122 to R127). -/

namespace Sys2Proof.Machine

/-- `PALR_RD` (R122). -/
def execPalrRd (s : State) : Outcome := s.busRead (palrView s.mac)

/-- `PALR_WR` (R123). -/
def execPalrWr (v : Word) (s : State) : Outcome :=
  s.busWrite { s with mac := palrStored s.mac v }

/-- `PAUR_RD` (R124). -/
def execPaurRd (s : State) : Outcome := s.busRead (paurView s.mac)

/-- `PAUR_WR` (R125). -/
def execPaurWr (v : Word) (s : State) : Outcome :=
  s.busWrite { s with mac := paurStored s.mac v }

/-- `OPD_RD` (R126). -/
def execOpdRd (s : State) : Outcome := s.busRead 0x00010000

/-- `OPD_WR`: the value is dropped without a log (R127). -/
def execOpdWr (_v : Word) (s : State) : Outcome :=
  s.busWrite s


end Sys2Proof.Machine
end

