-- ==== Sys2Proof/Machine/Dispatch.lean ====
section
/-! DEFINITION. Every operation of spec/opcode_table.json and its meaning: one arm a constructor. -/

namespace Sys2Proof.Machine

/-- What an operation does. -/
def exec (i : Instr) (s : State) : Host.Outcome State Fault Refusal :=
  match i with
  | .eirRd => Sys2Proof.Machine.execEirRd s
  | .eirWr v => Sys2Proof.Machine.execEirWr v s
  | .eimrRd => Sys2Proof.Machine.execEimrRd s
  | .eimrWr v => Sys2Proof.Machine.execEimrWr v s
  | .rdarRd => Sys2Proof.Machine.execRdarRd s
  | .rdarWr v => Sys2Proof.Machine.execRdarWr v s
  | .tdarRd => Sys2Proof.Machine.execTdarRd s
  | .tdarWr v => Sys2Proof.Machine.execTdarWr v s
  | .ecrRd => Sys2Proof.Machine.execEcrRd s
  | .ecrWr v => Sys2Proof.Machine.execEcrWr v s
  | .mmfrRd => Sys2Proof.Machine.execMmfrRd s
  | .mmfrWr v => Sys2Proof.Machine.execMmfrWr v s
  | .mscrRd => Sys2Proof.Machine.execMscrRd s
  | .mscrWr v => Sys2Proof.Machine.execMscrWr v s
  | .mibcRd => Sys2Proof.Machine.execMibcRd s
  | .mibcWr v => Sys2Proof.Machine.execMibcWr v s
  | .rcrRd => Sys2Proof.Machine.execRcrRd s
  | .rcrWr v => Sys2Proof.Machine.execRcrWr v s
  | .tcrRd => Sys2Proof.Machine.execTcrRd s
  | .tcrWr v => Sys2Proof.Machine.execTcrWr v s
  | .palrRd => Sys2Proof.Machine.execPalrRd s
  | .palrWr v => Sys2Proof.Machine.execPalrWr v s
  | .paurRd => Sys2Proof.Machine.execPaurRd s
  | .paurWr v => Sys2Proof.Machine.execPaurWr v s
  | .opdRd => Sys2Proof.Machine.execOpdRd s
  | .opdWr v => Sys2Proof.Machine.execOpdWr v s
  | .iaurRd => Sys2Proof.Machine.execIaurRd s
  | .iaurWr v => Sys2Proof.Machine.execIaurWr v s
  | .ialrRd => Sys2Proof.Machine.execIalrRd s
  | .ialrWr v => Sys2Proof.Machine.execIalrWr v s
  | .gaurRd => Sys2Proof.Machine.execGaurRd s
  | .gaurWr v => Sys2Proof.Machine.execGaurWr v s
  | .galrRd => Sys2Proof.Machine.execGalrRd s
  | .galrWr v => Sys2Proof.Machine.execGalrWr v s
  | .tfwrRd => Sys2Proof.Machine.execTfwrRd s
  | .tfwrWr v => Sys2Proof.Machine.execTfwrWr v s
  | .frbrRd => Sys2Proof.Machine.execFrbrRd s
  | .frbrWr v => Sys2Proof.Machine.execFrbrWr v s
  | .rfsrRd => Sys2Proof.Machine.execRfsrRd s
  | .rfsrWr v => Sys2Proof.Machine.execRfsrWr v s
  | .erdsrRd => Sys2Proof.Machine.execErdsrRd s
  | .erdsrWr v => Sys2Proof.Machine.execErdsrWr v s
  | .etdsrRd => Sys2Proof.Machine.execEtdsrRd s
  | .etdsrWr v => Sys2Proof.Machine.execEtdsrWr v s
  | .emrbrRd => Sys2Proof.Machine.execEmrbrRd s
  | .emrbrWr v => Sys2Proof.Machine.execEmrbrWr v s
  | .mib0Rd => Sys2Proof.Machine.execMib0Rd s
  | .mib0Wr v => Sys2Proof.Machine.execMib0Wr v s
  | .mib1Rd => Sys2Proof.Machine.execMib1Rd s
  | .mib1Wr v => Sys2Proof.Machine.execMib1Wr v s
  | .mib2Rd => Sys2Proof.Machine.execMib2Rd s
  | .mib2Wr v => Sys2Proof.Machine.execMib2Wr v s
  | .mib3Rd => Sys2Proof.Machine.execMib3Rd s
  | .mib3Wr v => Sys2Proof.Machine.execMib3Wr v s
  | .mib4Rd => Sys2Proof.Machine.execMib4Rd s
  | .mib4Wr v => Sys2Proof.Machine.execMib4Wr v s
  | .mib5Rd => Sys2Proof.Machine.execMib5Rd s
  | .mib5Wr v => Sys2Proof.Machine.execMib5Wr v s
  | .mib6Rd => Sys2Proof.Machine.execMib6Rd s
  | .mib6Wr v => Sys2Proof.Machine.execMib6Wr v s
  | .mib7Rd => Sys2Proof.Machine.execMib7Rd s
  | .mib7Wr v => Sys2Proof.Machine.execMib7Wr v s
  | .mib8Rd => Sys2Proof.Machine.execMib8Rd s
  | .mib8Wr v => Sys2Proof.Machine.execMib8Wr v s
  | .mib9Rd => Sys2Proof.Machine.execMib9Rd s
  | .mib9Wr v => Sys2Proof.Machine.execMib9Wr v s
  | .mib10Rd => Sys2Proof.Machine.execMib10Rd s
  | .mib10Wr v => Sys2Proof.Machine.execMib10Wr v s
  | .mib11Rd => Sys2Proof.Machine.execMib11Rd s
  | .mib11Wr v => Sys2Proof.Machine.execMib11Wr v s
  | .mib12Rd => Sys2Proof.Machine.execMib12Rd s
  | .mib12Wr v => Sys2Proof.Machine.execMib12Wr v s
  | .mib13Rd => Sys2Proof.Machine.execMib13Rd s
  | .mib13Wr v => Sys2Proof.Machine.execMib13Wr v s
  | .mib14Rd => Sys2Proof.Machine.execMib14Rd s
  | .mib14Wr v => Sys2Proof.Machine.execMib14Wr v s
  | .mib15Rd => Sys2Proof.Machine.execMib15Rd s
  | .mib15Wr v => Sys2Proof.Machine.execMib15Wr v s
  | .mib16Rd => Sys2Proof.Machine.execMib16Rd s
  | .mib16Wr v => Sys2Proof.Machine.execMib16Wr v s
  | .mib17Rd => Sys2Proof.Machine.execMib17Rd s
  | .mib17Wr v => Sys2Proof.Machine.execMib17Wr v s
  | .mib18Rd => Sys2Proof.Machine.execMib18Rd s
  | .mib18Wr v => Sys2Proof.Machine.execMib18Wr v s
  | .mib19Rd => Sys2Proof.Machine.execMib19Rd s
  | .mib19Wr v => Sys2Proof.Machine.execMib19Wr v s
  | .mib20Rd => Sys2Proof.Machine.execMib20Rd s
  | .mib20Wr v => Sys2Proof.Machine.execMib20Wr v s
  | .mib21Rd => Sys2Proof.Machine.execMib21Rd s
  | .mib21Wr v => Sys2Proof.Machine.execMib21Wr v s
  | .mib22Rd => Sys2Proof.Machine.execMib22Rd s
  | .mib22Wr v => Sys2Proof.Machine.execMib22Wr v s
  | .mib23Rd => Sys2Proof.Machine.execMib23Rd s
  | .mib23Wr v => Sys2Proof.Machine.execMib23Wr v s
  | .mib24Rd => Sys2Proof.Machine.execMib24Rd s
  | .mib24Wr v => Sys2Proof.Machine.execMib24Wr v s
  | .mib25Rd => Sys2Proof.Machine.execMib25Rd s
  | .mib25Wr v => Sys2Proof.Machine.execMib25Wr v s
  | .mib26Rd => Sys2Proof.Machine.execMib26Rd s
  | .mib26Wr v => Sys2Proof.Machine.execMib26Wr v s
  | .mib27Rd => Sys2Proof.Machine.execMib27Rd s
  | .mib27Wr v => Sys2Proof.Machine.execMib27Wr v s
  | .mib28Rd => Sys2Proof.Machine.execMib28Rd s
  | .mib28Wr v => Sys2Proof.Machine.execMib28Wr v s
  | .mib29Rd => Sys2Proof.Machine.execMib29Rd s
  | .mib29Wr v => Sys2Proof.Machine.execMib29Wr v s
  | .mib30Rd => Sys2Proof.Machine.execMib30Rd s
  | .mib30Wr v => Sys2Proof.Machine.execMib30Wr v s
  | .mib31Rd => Sys2Proof.Machine.execMib31Rd s
  | .mib31Wr v => Sys2Proof.Machine.execMib31Wr v s
  | .mib32Rd => Sys2Proof.Machine.execMib32Rd s
  | .mib32Wr v => Sys2Proof.Machine.execMib32Wr v s
  | .mib33Rd => Sys2Proof.Machine.execMib33Rd s
  | .mib33Wr v => Sys2Proof.Machine.execMib33Wr v s
  | .mib34Rd => Sys2Proof.Machine.execMib34Rd s
  | .mib34Wr v => Sys2Proof.Machine.execMib34Wr v s
  | .mib35Rd => Sys2Proof.Machine.execMib35Rd s
  | .mib35Wr v => Sys2Proof.Machine.execMib35Wr v s
  | .mib36Rd => Sys2Proof.Machine.execMib36Rd s
  | .mib36Wr v => Sys2Proof.Machine.execMib36Wr v s
  | .mib37Rd => Sys2Proof.Machine.execMib37Rd s
  | .mib37Wr v => Sys2Proof.Machine.execMib37Wr v s
  | .mib38Rd => Sys2Proof.Machine.execMib38Rd s
  | .mib38Wr v => Sys2Proof.Machine.execMib38Wr v s
  | .mib39Rd => Sys2Proof.Machine.execMib39Rd s
  | .mib39Wr v => Sys2Proof.Machine.execMib39Wr v s
  | .mib40Rd => Sys2Proof.Machine.execMib40Rd s
  | .mib40Wr v => Sys2Proof.Machine.execMib40Wr v s
  | .mib41Rd => Sys2Proof.Machine.execMib41Rd s
  | .mib41Wr v => Sys2Proof.Machine.execMib41Wr v s
  | .mib42Rd => Sys2Proof.Machine.execMib42Rd s
  | .mib42Wr v => Sys2Proof.Machine.execMib42Wr v s
  | .mib43Rd => Sys2Proof.Machine.execMib43Rd s
  | .mib43Wr v => Sys2Proof.Machine.execMib43Wr v s
  | .mib44Rd => Sys2Proof.Machine.execMib44Rd s
  | .mib44Wr v => Sys2Proof.Machine.execMib44Wr v s
  | .mib45Rd => Sys2Proof.Machine.execMib45Rd s
  | .mib45Wr v => Sys2Proof.Machine.execMib45Wr v s
  | .mib46Rd => Sys2Proof.Machine.execMib46Rd s
  | .mib46Wr v => Sys2Proof.Machine.execMib46Wr v s
  | .mib47Rd => Sys2Proof.Machine.execMib47Rd s
  | .mib47Wr v => Sys2Proof.Machine.execMib47Wr v s
  | .mib48Rd => Sys2Proof.Machine.execMib48Rd s
  | .mib48Wr v => Sys2Proof.Machine.execMib48Wr v s
  | .mib49Rd => Sys2Proof.Machine.execMib49Rd s
  | .mib49Wr v => Sys2Proof.Machine.execMib49Wr v s
  | .mib50Rd => Sys2Proof.Machine.execMib50Rd s
  | .mib50Wr v => Sys2Proof.Machine.execMib50Wr v s
  | .mib51Rd => Sys2Proof.Machine.execMib51Rd s
  | .mib51Wr v => Sys2Proof.Machine.execMib51Wr v s
  | .mib52Rd => Sys2Proof.Machine.execMib52Rd s
  | .mib52Wr v => Sys2Proof.Machine.execMib52Wr v s
  | .mib53Rd => Sys2Proof.Machine.execMib53Rd s
  | .mib53Wr v => Sys2Proof.Machine.execMib53Wr v s
  | .mib54Rd => Sys2Proof.Machine.execMib54Rd s
  | .mib54Wr v => Sys2Proof.Machine.execMib54Wr v s
  | .mib55Rd => Sys2Proof.Machine.execMib55Rd s
  | .mib55Wr v => Sys2Proof.Machine.execMib55Wr v s
  | .mib56Rd => Sys2Proof.Machine.execMib56Rd s
  | .mib56Wr v => Sys2Proof.Machine.execMib56Wr v s
  | .gask0Rd => Sys2Proof.Machine.execGask0Rd s
  | .gask0Wr v => Sys2Proof.Machine.execGask0Wr v s
  | .gask1Rd => Sys2Proof.Machine.execGask1Rd s
  | .gask1Wr v => Sys2Proof.Machine.execGask1Wr v s
  | .mdioInvalid0 st pa ra ta data => Sys2Proof.Machine.execMdioInvalid0 st pa ra ta data s
  | .mdioWrite st pa ra ta data => Sys2Proof.Machine.execMdioWrite st pa ra ta data s
  | .mdioRead st pa ra ta data => Sys2Proof.Machine.execMdioRead st pa ra ta data s
  | .mdioInvalid3 st pa ra ta data => Sys2Proof.Machine.execMdioInvalid3 st pa ra ta data s
  | .phyRd0 => Sys2Proof.Machine.execPhyRd0 s
  | .phyRd1 => Sys2Proof.Machine.execPhyRd1 s
  | .phyRd2 => Sys2Proof.Machine.execPhyRd2 s
  | .phyRd3 => Sys2Proof.Machine.execPhyRd3 s
  | .phyRd4 => Sys2Proof.Machine.execPhyRd4 s
  | .phyRd5 => Sys2Proof.Machine.execPhyRd5 s
  | .phyRd6 => Sys2Proof.Machine.execPhyRd6 s
  | .phyRd7 => Sys2Proof.Machine.execPhyRd7 s
  | .phyRd8 => Sys2Proof.Machine.execPhyRd8 s
  | .phyRd9 => Sys2Proof.Machine.execPhyRd9 s
  | .phyRd10 => Sys2Proof.Machine.execPhyRd10 s
  | .phyRd11 => Sys2Proof.Machine.execPhyRd11 s
  | .phyRd12 => Sys2Proof.Machine.execPhyRd12 s
  | .phyRd13 => Sys2Proof.Machine.execPhyRd13 s
  | .phyRd14 => Sys2Proof.Machine.execPhyRd14 s
  | .phyRd15 => Sys2Proof.Machine.execPhyRd15 s
  | .phyRd16 => Sys2Proof.Machine.execPhyRd16 s
  | .phyRd17 => Sys2Proof.Machine.execPhyRd17 s
  | .phyRd18 => Sys2Proof.Machine.execPhyRd18 s
  | .phyRd19 => Sys2Proof.Machine.execPhyRd19 s
  | .phyRd20 => Sys2Proof.Machine.execPhyRd20 s
  | .phyRd21 => Sys2Proof.Machine.execPhyRd21 s
  | .phyRd22 => Sys2Proof.Machine.execPhyRd22 s
  | .phyRd23 => Sys2Proof.Machine.execPhyRd23 s
  | .phyRd24 => Sys2Proof.Machine.execPhyRd24 s
  | .phyRd25 => Sys2Proof.Machine.execPhyRd25 s
  | .phyRd26 => Sys2Proof.Machine.execPhyRd26 s
  | .phyRd27 => Sys2Proof.Machine.execPhyRd27 s
  | .phyRd28 => Sys2Proof.Machine.execPhyRd28 s
  | .phyRd29 => Sys2Proof.Machine.execPhyRd29 s
  | .phyRd30 => Sys2Proof.Machine.execPhyRd30 s
  | .phyRd31 => Sys2Proof.Machine.execPhyRd31 s
  | .phyWr0 data => Sys2Proof.Machine.execPhyWr0 data s
  | .phyWr1 data => Sys2Proof.Machine.execPhyWr1 data s
  | .phyWr2 data => Sys2Proof.Machine.execPhyWr2 data s
  | .phyWr3 data => Sys2Proof.Machine.execPhyWr3 data s
  | .phyWr4 data => Sys2Proof.Machine.execPhyWr4 data s
  | .phyWr5 data => Sys2Proof.Machine.execPhyWr5 data s
  | .phyWr6 data => Sys2Proof.Machine.execPhyWr6 data s
  | .phyWr7 data => Sys2Proof.Machine.execPhyWr7 data s
  | .phyWr8 data => Sys2Proof.Machine.execPhyWr8 data s
  | .phyWr9 data => Sys2Proof.Machine.execPhyWr9 data s
  | .phyWr10 data => Sys2Proof.Machine.execPhyWr10 data s
  | .phyWr11 data => Sys2Proof.Machine.execPhyWr11 data s
  | .phyWr12 data => Sys2Proof.Machine.execPhyWr12 data s
  | .phyWr13 data => Sys2Proof.Machine.execPhyWr13 data s
  | .phyWr14 data => Sys2Proof.Machine.execPhyWr14 data s
  | .phyWr15 data => Sys2Proof.Machine.execPhyWr15 data s
  | .phyWr16 data => Sys2Proof.Machine.execPhyWr16 data s
  | .phyWr17 data => Sys2Proof.Machine.execPhyWr17 data s
  | .phyWr18 data => Sys2Proof.Machine.execPhyWr18 data s
  | .phyWr19 data => Sys2Proof.Machine.execPhyWr19 data s
  | .phyWr20 data => Sys2Proof.Machine.execPhyWr20 data s
  | .phyWr21 data => Sys2Proof.Machine.execPhyWr21 data s
  | .phyWr22 data => Sys2Proof.Machine.execPhyWr22 data s
  | .phyWr23 data => Sys2Proof.Machine.execPhyWr23 data s
  | .phyWr24 data => Sys2Proof.Machine.execPhyWr24 data s
  | .phyWr25 data => Sys2Proof.Machine.execPhyWr25 data s
  | .phyWr26 data => Sys2Proof.Machine.execPhyWr26 data s
  | .phyWr27 data => Sys2Proof.Machine.execPhyWr27 data s
  | .phyWr28 data => Sys2Proof.Machine.execPhyWr28 data s
  | .phyWr29 data => Sys2Proof.Machine.execPhyWr29 data s
  | .phyWr30 data => Sys2Proof.Machine.execPhyWr30 data s
  | .phyWr31 data => Sys2Proof.Machine.execPhyWr31 data s
  | .construct p => Sys2Proof.Machine.execConstruct p s
  | .canReceive => Sys2Proof.Machine.execCanReceive s
  | .receive frame draw => Sys2Proof.Machine.execReceive frame draw s
  | .setLink b => Sys2Proof.Machine.execSetLink b s

end Sys2Proof.Machine
end

