-- ==== Sys2Proof/Machine/Environment.lean ====
section
/-! DEFINITION. One external event (20_memory.md R73): a request is decoded and executed, a request
that is a configuration error ends the session, and the bus master's own memory accesses are done on
guest memory. Also where a table word is placed for the next step. -/

namespace Sys2Proof.Machine

/-- The next external event, and the state without it; none where the block is idle (R73; log 1). -/
def State.takeEvent (s : State) : Option (Event × State) :=
  match s.pending with
  | [] => none
  | e :: rest => some (e, { s with pending := rest })

/-- A request to the block: the operation it decodes to, or the `Fatal` it is. The session must be
live: a `Fatal` is precise and terminal (60_exceptions.md R271 to R273; log 8). -/
def runRequest (r : Request) (s : State) : Outcome :=
  match decode r with
  | .instr i => exec i s
  | .rejected f => s.perform (s.raiseFatal f)

/-- One external event. The bus master's accesses to guest memory are no operation of the block and
change nothing of it (20_memory.md R60, 30_encoding.md R94 `M`; log 21). -/
def runEvent (e : Event) (s : State) : Outcome :=
  match e with
  | .op r => runRequest r s
  | .store a bs => s.perform ((s.writeBytes a bs).reply .none)
  | .load a n => s.perform (s.reply (.bytes (s.readBytes a n)))

/-- The state with a request as its next external event. -/
def State.withRequest (s : State) (r : Request) : State := { s with pending := .op r :: s.pending }

end Sys2Proof.Machine
end

