-- ==== Sys2Proof/Machine/Step.lean ====
section
/-! DEFINITION. One step of the system: the next external event runs to completion (20_memory.md
R72, R73). -/

namespace Sys2Proof.Machine

/-- One step. Once a `Fatal` has ended the session no agent has a step (10_state.md R47). With no
event pending the block is idle and nothing changes: its engines run only inside an operation that
an event triggers (00_scope.md R6, 60_exceptions.md R289). -/
def step (s : State) : Host.Outcome State Fault Refusal :=
  match s.fatal with
  | some r => .fault (.sessionEnded r)
  | none =>
    match s.takeEvent with
    | none => .next s
    | some (e, s') => runEvent e s'

/-- The state in which the very next step runs the instruction of a word of spec/opcode_table.json:
its request is the next external event (log 1). -/
def State.withFetchWord (s : State) (nbits w : Nat) : State := s.withRequest (tableRequest nbits w)

end Sys2Proof.Machine
end

