-- ==== Sys2Proof/Safety.lean ====
section
/-! DEFINITION. The terms the statements use: a live session, the interrupt side after `UPDATE()`, the
register write as a whole, the memory each engine stores to, and the invariant of every step. -/

namespace Sys2Proof.Machine

/-- The session goes on: no configuration error has ended it (10_state.md R47). -/
def Live (s : State) : Prop := s.fatal = none

/-- `x` is one of the `n` addresses a, a+1, ... mod 2^32 (20_memory.md R61). -/
def InSpan (a : Word) (n : Nat) (x : Word) : Prop := (x - a).toNat < n

/-! ### The interrupt side (60_exceptions.md R279) -/

/-- The levels an active set gives the line `i`: high where its event is in the set. -/
def levelOf (act : Word) (i : Fin 13) : Bool := (act &&& lineMask i) != 0

/-- The interrupt side of `t` is what one `UPDATE()` at the end of an operation leaves, where the
operation began in `s` and did not touch the interrupt side before: `irq_state` is the active set of
`t`, a line whose bit changed since `s` has the new level and was driven in line order, and every
other line is as it was and was not driven. -/
def AfterUpdate (s t : State) : Prop :=
  t.irqState = t.eir &&& t.eimr ∧
  (∀ i : Fin 13, t.lines[i] =
    if levelOf ((t.eir &&& t.eimr) ^^^ s.irqState) i then levelOf (t.eir &&& t.eimr) i else s.lines[i]) ∧
  t.setLineCalls = s.setLineCalls ++
    (lineOrder.filter (fun i => levelOf ((t.eir &&& t.eimr) ^^^ s.irqState) i)).map
      (fun i => (i, levelOf (t.eir &&& t.eimr) i))

/-- The operation `i` completes in `s`, and takes it to `u` followed by one `UPDATE()`: everything but
the interrupt side is as in `u`, and nothing is returned (40_register_file.md R101). -/
def Writes (i : Instr) (s u : State) : Prop :=
  ∃ t, exec i s = .next t ∧ AfterUpdate s t ∧
    t = { u with answer := .none, irqState := t.irqState, lines := t.lines,
                 setLineCalls := t.setLineCalls }

/-- Every line holds the level of its event in `irq_state`, the active set of the last `UPDATE()`
(60_exceptions.md R281). -/
def LinesFollow (s : State) : Prop := ∀ i : Fin 13, s.lines[i] = levelOf s.irqState i

/-! ### What an operation is, by its command -/

/-- The bus command of an operation of the register window (30_encoding.md R81). -/
def busCommand (i : Instr) : Option (BitVec 11) :=
  match encode i with
  | .bus _ cmd _ => some cmd
  | _ => none

/-- The operation is the write of a PHY register (30_encoding.md R89). -/
def isPhyWrite (i : Instr) : Bool :=
  match encode i with
  | .phy cmd _ => cmd.getLsbD 5
  | _ => false

/-- The operation is a management frame (30_encoding.md R84). -/
def isFrame (i : Instr) : Bool :=
  match encode i with
  | .mmfr _ => true
  | _ => false

/-- The operation is the host event with this code (30_encoding.md R93). -/
def isHost (i : Instr) (code : BitVec 3) : Bool :=
  match encode i with
  | .host c _ => c == code
  | _ => false

/-- A request with the data operand a read does not use written as 0 (30_encoding.md R81, R89). -/
def plainRequest : Request → Request
  | .bus width cmd v => .bus width cmd (if busIsWrite cmd then v else 0)
  | .phy cmd data => .phy cmd (if cmd.getLsbD 5 then data else 0)
  | .mmfr frame => .mmfr frame
  | .host code operand => .host code operand

/-- The read operations of the MIB words (40_register_file.md R148). -/
def mibReadOps : List Instr :=
  [.mib0Rd, .mib1Rd, .mib2Rd, .mib3Rd, .mib4Rd, .mib5Rd, .mib6Rd, .mib7Rd, .mib8Rd, .mib9Rd,
   .mib10Rd, .mib11Rd, .mib12Rd, .mib13Rd, .mib14Rd, .mib15Rd, .mib16Rd, .mib17Rd, .mib18Rd, .mib19Rd,
   .mib20Rd, .mib21Rd, .mib22Rd, .mib23Rd, .mib24Rd, .mib25Rd, .mib26Rd, .mib27Rd, .mib28Rd, .mib29Rd,
   .mib30Rd, .mib31Rd, .mib32Rd, .mib33Rd, .mib34Rd, .mib35Rd, .mib36Rd, .mib37Rd, .mib38Rd, .mib39Rd,
   .mib40Rd, .mib41Rd, .mib42Rd, .mib43Rd, .mib44Rd, .mib45Rd, .mib46Rd, .mib47Rd, .mib48Rd, .mib49Rd,
   .mib50Rd, .mib51Rd, .mib52Rd, .mib53Rd, .mib54Rd, .mib55Rd, .mib56Rd]

/-- The write operations of the MIB words, each with its offset `0x200 + 4k` (R149). -/
def mibWriteOps : List (BitVec 10 × (Word → Instr)) :=
  [(0x200, .mib0Wr), (0x204, .mib1Wr), (0x208, .mib2Wr), (0x20C, .mib3Wr), (0x210, .mib4Wr),
   (0x214, .mib5Wr), (0x218, .mib6Wr), (0x21C, .mib7Wr), (0x220, .mib8Wr), (0x224, .mib9Wr),
   (0x228, .mib10Wr), (0x22C, .mib11Wr), (0x230, .mib12Wr), (0x234, .mib13Wr), (0x238, .mib14Wr),
   (0x23C, .mib15Wr), (0x240, .mib16Wr), (0x244, .mib17Wr), (0x248, .mib18Wr), (0x24C, .mib19Wr),
   (0x250, .mib20Wr), (0x254, .mib21Wr), (0x258, .mib22Wr), (0x25C, .mib23Wr), (0x260, .mib24Wr),
   (0x264, .mib25Wr), (0x268, .mib26Wr), (0x26C, .mib27Wr), (0x270, .mib28Wr), (0x274, .mib29Wr),
   (0x278, .mib30Wr), (0x27C, .mib31Wr), (0x280, .mib32Wr), (0x284, .mib33Wr), (0x288, .mib34Wr),
   (0x28C, .mib35Wr), (0x290, .mib36Wr), (0x294, .mib37Wr), (0x298, .mib38Wr), (0x29C, .mib39Wr),
   (0x2A0, .mib40Wr), (0x2A4, .mib41Wr), (0x2A8, .mib42Wr), (0x2AC, .mib43Wr), (0x2B0, .mib44Wr),
   (0x2B4, .mib45Wr), (0x2B8, .mib46Wr), (0x2BC, .mib47Wr), (0x2C0, .mib48Wr), (0x2C4, .mib49Wr),
   (0x2C8, .mib50Wr), (0x2CC, .mib51Wr), (0x2D0, .mib52Wr), (0x2D4, .mib53Wr), (0x2D8, .mib54Wr),
   (0x2DC, .mib55Wr), (0x2E0, .mib56Wr)]

/-- The reads of the PHY registers that answer what is stored, each with its number
(44_mdio_phy.md R241, R246). -/
def phyStoredReadOps : List (BitVec 5 × Instr) :=
  [(0, .phyRd0), (2, .phyRd2), (3, .phyRd3), (4, .phyRd4), (6, .phyRd6), (7, .phyRd7), (8, .phyRd8),
   (9, .phyRd9), (10, .phyRd10), (11, .phyRd11), (12, .phyRd12), (13, .phyRd13), (14, .phyRd14), (15, .phyRd15),
   (16, .phyRd16), (19, .phyRd19), (20, .phyRd20), (21, .phyRd21), (22, .phyRd22), (23, .phyRd23), (24, .phyRd24),
   (25, .phyRd25), (26, .phyRd26), (27, .phyRd27), (28, .phyRd28), (29, .phyRd29), (30, .phyRd30), (31, .phyRd31)]

/-- The writes of the PHY registers but register 0, each with its number (44_mdio_phy.md R240). -/
def phyPlainWriteOps : List (BitVec 5 × (Half → Instr)) :=
  [(1, .phyWr1), (2, .phyWr2), (3, .phyWr3), (4, .phyWr4), (5, .phyWr5), (6, .phyWr6), (7, .phyWr7),
   (8, .phyWr8), (9, .phyWr9), (10, .phyWr10), (11, .phyWr11), (12, .phyWr12), (13, .phyWr13), (14, .phyWr14),
   (15, .phyWr15), (16, .phyWr16), (17, .phyWr17), (18, .phyWr18), (19, .phyWr19), (20, .phyWr20), (21, .phyWr21),
   (22, .phyWr22), (23, .phyWr23), (24, .phyWr24), (25, .phyWr25), (26, .phyWr26), (27, .phyWr27), (28, .phyWr28),
   (29, .phyWr29), (30, .phyWr30), (31, .phyWr31)]

/-! ### The memory the engines store to -/

/-- The slots a transmit pass hands back, in order: the addresses it stores 8 bytes to
(42_transmit.md R186), computed by the pass's own visit `txSlot` and advance. -/
def txSlots : Nat → Word → List Byte → State → List Word
  | 0, _, _, _ => []
  | n + 1, addr, acc, s =>
    if (s.decodeDesc addr).owned then
      let r := s.txSlot addr (s.decodeDesc addr) acc
      addr :: txSlots n ((s.decodeDesc addr).release.next addr r.2.etdsr) r.1 r.2
    else []

/-- The byte of a slot that holds bits 15:8 of its flags, the ownership bit in bit 7 (30_encoding.md
R86, R87, 41_descriptor_codec.md R171, R173). -/
def flagByte (e : Endian) (a : Word) : Word :=
  match e with
  | .big => a
  | .little => a + 3

/-- What slots in a row gather, each given by its L bit and its bytes, from the bytes `acc` gathered
before: the frames that an L ends, in order, and the bytes of the frame still open after the last
slot; nothing is cut (42_transmit.md R183, R184, R189). -/
def gathered : List Byte → List (Bool × List Byte) → List (List Byte) × List Byte
  | acc, [] => ([], acc)
  | acc, (true, bs) :: rest => ((acc ++ bs) :: (gathered [] rest).1, (gathered [] rest).2)
  | acc, (false, bs) :: rest => gathered (acc ++ bs) rest

/-- The spans a receive pass stores to, in order: for each slot filled its chunk of the buffer and the
slot itself (43_receive.md R208, R211), computed by the pass's own visit `rxSlot` and advance. -/
def rxSpans : Nat → Word → List Byte → Half → State → List (Word × Nat)
  | 0, _, _, _, _ => []
  | n + 1, addr, rest, err, s =>
    if rest.isEmpty then []
    else if (s.decodeDesc addr).owned then
      let r := s.rxSlot addr (s.decodeDesc addr) rest err
      ((s.decodeDesc addr).buffer, min rest.length s.bufferMax) :: (addr, 8) ::
        rxSpans n
          ((rxFilled (s.decodeDesc addr) (min rest.length s.bufferMax) r.1.isEmpty err).next addr
            r.2.erdsr)
          r.1 err r.2
    else []

/-- The spans `RECEIVE(frame)` stores to. -/
def receiveSpans (s : State) (frame : List Byte) (draw : Option Trailer) : List (Word × Nat) :=
  let c := rxClassify frame.length s.maxFrame
  rxSpans Config.visitLimit s.rxCursor (rxStream frame (s.drawTrailer draw).1 c.1) c.2
    (s.drawTrailer draw).2

/-! ### The invariant -/

/-- The events the block sets (10_state.md R23, 60_exceptions.md R277). -/
def settableEvents : Word := babt ||| gra ||| txf ||| txb ||| rxf ||| rxb ||| mii

/-- What every step keeps. -/
structure Inv (s : State) : Prop where
  /-- guest memory is in canonical form -/
  mem : s.mem.wf = true
  /-- EIR holds no event the block never sets, and bits 18:0 are 0 (10_state.md R49(d),
  93_implementation_defined.md U17) -/
  eir : s.eir &&& ~~~settableEvents = 0
  /-- ECR bit 0 reads 0 (10_state.md R25) -/
  ecr : s.ecr.getLsbD 0 = false
  /-- MSCR bits 31:8 and bit 0 read 0 (10_state.md R27) -/
  mscr : s.mscr &&& ~~~0x000000FE = 0
  /-- RCR bits 31:27 and 15:6 read 0 (10_state.md R28, R49(c)) -/
  rcr : s.rcr &&& ~~~0x07FF003F = 0
  /-- TFWR bits 31:2 read 0 (10_state.md R30) -/
  tfwr : s.tfwr &&& ~~~0x00000003 = 0
  /-- RFSR bit 10 reads 1 and the bits outside 10:2 read 0 (10_state.md R31) -/
  rfsr : s.rfsr &&& ~~~0x000003FC = 0x00000400
  /-- EMRBR is a multiple of 16 and at most 2032 (10_state.md R34, R49(b)) -/
  emrbr : s.emrbr.toNat % 16 = 0 ∧ s.emrbr.toNat ≤ 2032
  /-- the bases hold no bit that is clear in `ring_base_mask` (40_register_file.md R143, R145) -/
  bases : s.erdsr &&& ~~~s.params.ringBaseMask = 0 ∧ s.etdsr &&& ~~~s.params.ringBaseMask = 0
  /-- the cursors hold none of the low three bits that are clear in `ring_base_mask`: for every mask
  they are what the reason of R49(a) says, a masked base value and steps of 8 from it
  (`cursor_is_masked_base_plus_eights`), and where only low bits are clear in the mask, as in the
  default, R49(a) to the letter (`Inv.cursor_on_mask`). For any other mask the letter is not kept by
  the advance of 41_descriptor_codec.md R177 (`advance_keeps_mask_iff`; log 17) -/
  cursors : s.rxCursor &&& ~~~s.params.ringBaseMask &&& 0x00000007 = 0 ∧
    s.txCursor &&& ~~~s.params.ringBaseMask &&& 0x00000007 = 0
  /-- the lines hold the levels of the last `UPDATE()` (60_exceptions.md R281) -/
  lines : LinesFollow s
  /-- no frame sent is longer than the cap (42_transmit.md R183) -/
  sent : ∀ f ∈ s.sent, f.length ≤ 2032

end Sys2Proof.Machine
end

