-- ==== Sys2Proof/Certificates/Slice0/Obligations.lean ====
section
/-! DEFINITION. The statements of this model, for the provers. -/

open Sys2Proof Sys2Proof.Machine

/-- Decoding the request of any well-formed operation gives it back (R80, R81, R82, R84, R85, R89,
R93). -/
def Obligations.DecodeInvertsEncode : Prop :=
  ∀ i : Instr, i.wf = true → decode (encode i) = .instr i

/-- Every request that decodes is, but for the unused data of a read, written as 0 (log 15), the
request of the operation it decodes to (R80, R81, R82, R84, R85, R89, R93). -/
def Obligations.EncodeInvertsDecode : Prop :=
  ∀ (r : Request) (i : Instr), decode r = .instr i → i.wf = true ∧ encode i = plainRequest r

/-- Words written out from the encodings decode to the operations they stand for (R81, R82, R84,
R89, R93). -/
def Obligations.TableWordsDecode : Prop :=
  (∀ v, decode (.bus 32 0x424 v) = .instr (.ecrWr v)) ∧
  (∀ v, decode (.bus 32 0x004 v) = .instr .eirRd) ∧
  (∀ v, decode (.bus 32 0x2E0 v) = .instr .mib56Rd) ∧
  (∀ v, decode (.bus 32 0x708 v) = .instr (.gask1Wr v)) ∧
  decode (.mmfr 0x209441E1) = .instr (.mdioRead 0 1 5 0 0x41E1) ∧
  (∀ data, decode (.phy 0x24 data) = .instr (.phyWr4 data)) ∧
  (∀ b, decode (.host 3 (.link b)) = .instr (.setLink b))

/-- A step runs the operation its next event decodes to (the list of events is of the model, log
1) (R73, R72, 20_memory.md). -/
def Obligations.StepRunsTheDecodedOperation : Prop :=
  ∀ (s : State) (r : Request) (i : Instr) (rest : List Event),
    Live s → s.pending = .op r :: rest → decode r = .instr i →
    step s = exec i { s with pending := rest }

/-- The bus master's own memory accesses, and the idle block (as events they are of the model,
logs 1 and 21) (R60, R61, R62, R63, R94). -/
def Obligations.BusMasterMemoryAccesses : Prop :=
  (∀ s : State, Live s → s.pending = [] → step s = .next s) ∧
  (∀ (s : State) (a : Word) (bs : List Byte) (rest : List Event),
    Live s → s.mem.wf = true → bs.length ≤ 4294967296 → s.pending = .store a bs :: rest →
    ∃ t, step s = .next t ∧
      (∀ (k : Nat) (hk : k < bs.length), t.readByte (a + BitVec.ofNat 32 k) = bs[k]) ∧
      (∀ x, ¬ InSpan a bs.length x → t.readByte x = s.readByte x) ∧
      t = { s with mem := t.mem, pending := rest, answer := .none }) ∧
  (∀ (s : State) (a : Word) (n : Nat) (rest : List Event),
    Live s → s.pending = .load a n :: rest →
    step s = .next { s with pending := rest, answer := .bytes (s.readBytes a n) })

/-- An access of an offset outside the register map is a precise Fatal (a next state with fatal
set, log 8) (R83, R271, R273). -/
def Obligations.UnknownOffsetEndsTheSession : Prop :=
  ∀ (s : State) (cmd : BitVec 11) (v : Word) (rest : List Event),
    Live s → s.pending = .op (.bus 32 cmd v) :: rest → (busOffset cmd).toNat % 4 = 0 →
    if (busOffset cmd).toNat ∈ [0x004, 0x008, 0x010, 0x014, 0x024, 0x040, 0x044, 0x064, 0x084, 0x0C4,
        0x0E4, 0x0E8, 0x0EC, 0x118, 0x11C, 0x120, 0x124, 0x144, 0x14C, 0x150, 0x180, 0x184, 0x188,
        0x300, 0x308] ∨ (0x200 ≤ (busOffset cmd).toNat ∧ (busOffset cmd).toNat ≤ 0x2E0)
    then ∃ i, decode (.bus 32 cmd v) = .instr i
    else step s = .next { s with pending := rest
                                 fatal := some (.unknownOffset (busOffset cmd)
                                   (if cmd.getLsbD 10 then some v else none)) }

/-- An access of another width or alignment is a precise Fatal, checked first (a next state with
fatal set, log 8) (R272, R273). -/
def Obligations.BadAccessEndsTheSession : Prop :=
  ∀ (s : State) (width : Nat) (cmd : BitVec 11) (v : Word) (rest : List Event),
    Live s → s.pending = .op (.bus width cmd v) :: rest →
    (width ≠ 32 ∨ (busOffset cmd).toNat % 4 ≠ 0) →
    step s = .next { s with pending := rest, fatal := some (.badAccess (busOffset cmd)) }

/-- A host request outside the forms of R93 is a Fatal (the model reads R13 so, logs 8 and 9)
(R13, R93, R8). -/
def Obligations.HostRequestsOutsideTheForms : Prop :=
  ∀ (s : State) (code : BitVec 3) (operand : HostOperand) (rest : List Event),
    Live s → s.pending = .op (.host code operand) :: rest →
    (∀ p, code = 0 → operand = .params p → p.maxDescPerPass = some 0) →
    (code = 1 → operand ≠ .nothing) →
    (∀ bytes draw, code = 2 → operand ≠ .frame bytes draw) →
    (∀ b, code = 3 → operand ≠ .link b) →
    step s = .next { s with pending := rest, fatal := some (.badEvent code) }

/-- Once fatal is set no operation has a step (the fault that says so is of the model, log 8)
(R47, R273). -/
def Obligations.EndedSessionHasNoStep : Prop :=
  ∀ (s : State) (r : FatalRecord), s.fatal = some r →
    step s = .fault (.sessionEnded r) ∧ ∀ i : Instr, exec i s = .fault (.sessionEnded r)

/-- Every operation of a live session completes and raises no Fatal (R13, R270, R62, R63). -/
def Obligations.EveryOperationCompletes : Prop :=
  ∀ (i : Instr) (s : State), Live s → ∃ t, exec i s = .next t ∧ Live t

/-- The reads of EIR, EIMR, ECR, MMFR, MSCR, RCR and TCR answer the register and change nothing
(R104, R120). -/
def Obligations.ControlRegisterReads : Prop :=
  ∀ s : State, Live s →
    exec .eirRd s = .next { s with answer := .word s.eir } ∧
    exec .eimrRd s = .next { s with answer := .word s.eimr } ∧
    exec .ecrRd s = .next { s with answer := .word s.ecr } ∧
    exec .mmfrRd s = .next { s with answer := .word s.mmfr } ∧
    exec .mscrRd s = .next { s with answer := .word s.mscr } ∧
    exec .rcrRd s = .next { s with answer := .word s.rcr } ∧
    exec .tcrRd s = .next { s with answer := .word s.tcr }

/-- The reads of TFWR, RFSR, ERDSR, ETDSR, EMRBR, GASK0 and GASK1 answer the register and change
nothing (R142, R144, R150, R152). -/
def Obligations.FifoRingAndGasketReads : Prop :=
  ∀ s : State, Live s →
    exec .tfwrRd s = .next { s with answer := .word s.tfwr } ∧
    exec .rfsrRd s = .next { s with answer := .word s.rfsr } ∧
    exec .erdsrRd s = .next { s with answer := .word s.erdsr } ∧
    exec .etdsrRd s = .next { s with answer := .word s.etdsr } ∧
    exec .emrbrRd s = .next { s with answer := .word s.emrbr } ∧
    exec .gask0Rd s = .next { s with answer := .word s.gask0 } ∧
    exec .gask1Rd s = .next { s with answer := .word s.gask1 }

/-- RDAR reads the receive-enabled flag at bit 24, and the stubs read their constants (R106, R108,
R116, R126, R128, R130, R132, R134, R138). -/
def Obligations.ViewAndConstantReads : Prop :=
  ∀ s : State, Live s →
    exec .rdarRd s = .next { s with answer := .word (if s.rxEnabled then 0x01000000 else 0x00000000) } ∧
    exec .tdarRd s = .next { s with answer := .word 0x00000000 } ∧
    exec .mibcRd s = .next { s with answer := .word 0x00000000 } ∧
    exec .opdRd s = .next { s with answer := .word 0x00010000 } ∧
    exec .iaurRd s = .next { s with answer := .word 0x00000000 } ∧
    exec .ialrRd s = .next { s with answer := .word 0x00000000 } ∧
    exec .gaurRd s = .next { s with answer := .word 0x00000000 } ∧
    exec .galrRd s = .next { s with answer := .word 0x00000000 } ∧
    exec .frbrRd s = .next { s with answer := .word 0x00000600 }

/-- PALR and PAUR read the bytes of the station address (R122, R124). -/
def Obligations.StationAddressReads : Prop :=
  ∀ s : State, Live s →
    exec .palrRd s = .next
       { s with answer := .word ((s.mac.b0.setWidth 32 <<< 24) ||| (s.mac.b1.setWidth 32 <<< 16) |||
        (s.mac.b2.setWidth 32 <<< 8) ||| s.mac.b3.setWidth 32) } ∧
    exec .paurRd s = .next
       { s with answer := .word ((s.mac.b4.setWidth 32 <<< 24) ||| (s.mac.b5.setWidth 32 <<< 16) |||
           0x00008808) }

/-- Each of the 57 MIB words reads 0 (R148). -/
def Obligations.MibWordsReadZero : Prop :=
  ∀ i ∈ mibReadOps, ∀ s : State, Live s → exec i s = .next { s with answer := .word 0x00000000 }

/-- EIR is write-1-to-clear and EIMR is stored, each followed by UPDATE (R105). -/
def Obligations.EventAndMaskWrites : Prop :=
  ∀ (s : State) (v : Word), Live s →
    Writes (.eirWr v) s { s with eir := s.eir &&& ~~~v } ∧
    Writes (.eimrWr v) s { s with eimr := v }

/-- The writes of PALR and PAUR store the bytes of the station address (R125). -/
def Obligations.StationAddressWrites : Prop :=
  ∀ (s : State) (v : Word), Live s →
    Writes (.palrWr v) s { s with mac :=
      ⟨(v >>> 24).setWidth 8, (v >>> 16).setWidth 8, (v >>> 8).setWidth 8, v.setWidth 8,
        s.mac.b4, s.mac.b5⟩ } ∧
    Writes (.paurWr v) s { s with mac :=
      ⟨s.mac.b0, s.mac.b1, s.mac.b2, s.mac.b3, (v >>> 24).setWidth 8, (v >>> 16).setWidth 8⟩ }

/-- RCR stores under its mask and logs loopback; TCR stores and sets GRA (R119, R121). -/
def Obligations.ModeRegisterWrites : Prop :=
  ∀ (s : State) (v : Word), Live s →
    Writes (.rcrWr v) s { s with rcr := v &&& 0x07FF003F
                                 log := if v.getLsbD 0 then s.log ++ [.loopbackUnsupported v] else s.log } ∧
    Writes (.tcrWr v) s { s with tcr := v
                                 eir := if v.getLsbD 0 then s.eir ||| 0x10000000 else s.eir }

/-- TFWR, RFSR and EMRBR store under their masks (R141). -/
def Obligations.FifoAndSizeWrites : Prop :=
  ∀ (s : State) (v : Word), Live s →
    Writes (.tfwrWr v) s { s with tfwr := v &&& 0x00000003 } ∧
    Writes (.rfsrWr v) s { s with rfsr := (v &&& 0x000003FC) ||| 0x00000400 } ∧
    Writes (.emrbrWr v) s { s with emrbr := v &&& 0x000007F0 }

/-- ERDSR and ETDSR store the masked base and move the cursor with it (R143, R145). -/
def Obligations.RingBaseWrites : Prop :=
  ∀ (s : State) (v : Word), Live s →
    Writes (.erdsrWr v) s { s with erdsr := v &&& s.params.ringBaseMask
                                   rxCursor := v &&& s.params.ringBaseMask } ∧
    Writes (.etdsrWr v) s { s with etdsr := v &&& s.params.ringBaseMask
                                   txCursor := v &&& s.params.ringBaseMask } ∧
    (s.params.ringBaseMask = 0xFFFFFFF8 → (v &&& s.params.ringBaseMask).toNat % 8 = 0)

/-- GASK0 and GASK1 store the value; the writes of OPD and FRBR are dropped without a log (R127,
R139, R151, R153). -/
def Obligations.GasketWritesAndDroppedWrites : Prop :=
  ∀ (s : State) (v : Word), Live s →
    Writes (.gask0Wr v) s { s with gask0 := v } ∧
    Writes (.gask1Wr v) s { s with gask1 := v } ∧
    Writes (.opdWr v) s s ∧
    Writes (.frbrWr v) s s

/-- The writes of MIBC and of the hash filter registers are logged no-ops (R117, R129, R131, R133,
R135). -/
def Obligations.StubWritesAreLogged : Prop :=
  ∀ (s : State) (v : Word), Live s →
    Writes (.mibcWr v) s { s with log := s.log ++ [.mibUnsupported 0x064 v] } ∧
    Writes (.iaurWr v) s { s with log := s.log ++ [.hashFilterUnsupported 0x118 v] } ∧
    Writes (.ialrWr v) s { s with log := s.log ++ [.hashFilterUnsupported 0x11C v] } ∧
    Writes (.gaurWr v) s { s with log := s.log ++ [.hashFilterUnsupported 0x120 v] } ∧
    Writes (.galrWr v) s { s with log := s.log ++ [.hashFilterUnsupported 0x124 v] }

/-- The write of each of the 57 MIB words is a logged no-op (R149). -/
def Obligations.MibWordWritesAreLogged : Prop :=
  ∀ p ∈ mibWriteOps, ∀ (s : State) (v : Word), Live s →
    Writes (p.2 v) s { s with log := s.log ++ [.mibUnsupported p.1 v] }

/-- ECR stores the value, and with ETHER_EN 0 disables receive (R111, R25). -/
def Obligations.EcrWriteWithoutReset : Prop :=
  ∀ (s : State) (v : Word), Live s → v.getLsbD 0 = false →
    Writes (.ecrWr v) s { s with ecr := v, rxEnabled := s.rxEnabled && v.getLsbD 1 }

/-- The software reset restores the register file and lowers every line (R301, R303). -/
def Obligations.EcrWriteWithReset : Prop :=
  ∀ (s : State) (v : Word), Live s → LinesFollow s → v.getLsbD 0 = true →
    exec (.ecrWr v) s = .next
      { s with
        eir := 0, eimr := 0, ecr := 0, mscr := 0, rcr := 0x05EE0001, tcr := 0, tfwr := 0
        rfsr := 0x00000500, rxEnabled := false
        mmfr := if s.params.fullSoftReset then 0 else s.mmfr
        erdsr := if s.params.fullSoftReset then 0 else s.erdsr
        etdsr := if s.params.fullSoftReset then 0 else s.etdsr
        emrbr := if s.params.fullSoftReset then 0 else s.emrbr
        gask0 := if s.params.fullSoftReset then 0 else s.gask0
        gask1 := if s.params.fullSoftReset then 0 else s.gask1
        txCursor := if s.params.fullSoftReset then 0 else s.txCursor
        rxCursor := if s.params.fullSoftReset then 0 else s.rxCursor
        answer := .none
        irqState := 0
        lines := Vector.replicate 13 false
        setLineCalls := s.setLineCalls ++
          (lineOrder.filter (fun i => s.lines[i])).map (fun i => (i, false)) }

/-- What each of the four management operations does, as a request of its own (log 10) (R233,
R234, R235, R236, R237, R238, R239, R240). -/
def Obligations.ManagementFrames : Prop :=
  ∀ (s : State) (st : BitVec 2) (pa ra : BitVec 5) (ta : BitVec 2) (data : Half), Live s →
    exec (.mdioWrite st pa ra ta data) s = .next
      { s with mmfr := mmfrFrame st 1 pa ra ta data
               phy := if s.params.phyAttached = true ∧ pa = s.params.phyAddr then
                   s.phy.set ra.toNat (if ra = 0 then data &&& 0x7FFF else data) else s.phy
               eir := s.eir ||| 0x00800000, answer := .none } ∧
    exec (.mdioRead st pa ra ta data) s = .next
      { s with mmfr := mmfrFrame st 2 pa ra ta
                 (if s.params.phyAttached = true ∧ pa = s.params.phyAddr then s.phyRead ra else 0xFFFF)
               eir := s.eir ||| 0x00800000, answer := .none } ∧
    exec (.mdioInvalid0 st pa ra ta data) s = .next
      { s with mmfr := mmfrFrame st 0 pa ra ta data
               log := s.log ++ [.mdioBadOpcode (mmfrFrame st 0 pa ra ta data)]
               eir := s.eir ||| 0x00800000, answer := .none } ∧
    exec (.mdioInvalid3 st pa ra ta data) s = .next
      { s with mmfr := mmfrFrame st 3 pa ra ta data
               log := s.log ++ [.mdioBadOpcode (mmfrFrame st 3 pa ra ta data)]
               eir := s.eir ||| 0x00800000, answer := .none }

/-- A write of MMFR stores the value and dispatches it exactly when the divisor is non-zero
(R230). -/
def Obligations.MmfrWriteDispatches : Prop :=
  ∀ (s : State) (v : Word), Live s →
    (s.mscr &&& s.params.mdioDivisorMask = 0 → Writes (.mmfrWr v) s { s with mmfr := v }) ∧
    (s.mscr &&& s.params.mdioDivisorMask ≠ 0 →
      ∃ i u, decode (.mmfr v) = .instr i ∧ exec i s = .next u ∧ Writes (.mmfrWr v) s u)

/-- A write of MSCR dispatches the stored MMFR exactly when the divisor goes from zero to non-zero
(R231). -/
def Obligations.MscrWriteDispatches : Prop :=
  ∀ (s : State) (v : Word), Live s →
    (s.mscr &&& s.params.mdioDivisorMask = 0 ∧
        v &&& 0x000000FE &&& s.params.mdioDivisorMask ≠ 0 →
      (∃ t, exec (.mscrWr v) s = .next t) ∧
      exec (.mscrWr v) s = exec (.mmfrWr s.mmfr) { s with mscr := v &&& 0x000000FE }) ∧
    (¬ (s.mscr &&& s.params.mdioDivisorMask = 0 ∧
        v &&& 0x000000FE &&& s.params.mdioDivisorMask ≠ 0) →
      Writes (.mscrWr v) s { s with mscr := v &&& 0x000000FE })

/-- PHY reads answer what is stored, but for registers 1, 5, 17 and 18, whose answers are computed
(as requests of their own, log 10) (R241, R242, R243, R244, R245, R246). -/
def Obligations.PhyRegisterReads : Prop :=
  (∀ p ∈ phyStoredReadOps, ∀ s : State, Live s →
    exec p.2 s = .next { s with answer := .half s.phy[p.1.toNat] }) ∧
  ∀ s : State, Live s →
    exec .phyRd1 s = .next
       { s with answer := .half (if s.linkUp then s.params.phyStatusUp else s.params.phyStatusDown) } ∧
    exec .phyRd5 s = .next { s with answer := .half (0x4000 ||| (s.phy[4] &&& 0x01E0) ||| 0x0001) } ∧
    exec .phyRd17 s = .next
       { s with answer := .half (if s.linkUp then Config.phyDiag17 s.params.diag s.phy[4] else 0x0000) } ∧
    exec .phyRd18 s = .next
       { s with answer := .half (if s.linkUp then Config.phyDiag18 s.params.diag s.phy[4] else 0x0000) }

/-- PHY writes store the value; register 0 clears its reset bit at once (as requests of their own,
log 10) (R239, R240). -/
def Obligations.PhyRegisterWrites : Prop :=
  (∀ (s : State) (data : Half), Live s →
    exec (.phyWr0 data) s = .next { s with phy := s.phy.set 0 (data &&& 0x7FFF), answer := .none }) ∧
  ∀ p ∈ phyPlainWriteOps, ∀ (s : State) (data : Half), Live s →
    exec (p.2 data) s = .next { s with phy := s.phy.set p.1.toNat data, answer := .none }

/-- Writing PHY register 4 and reading register 5 through MMFR returns the agreed modes (R113,
R234, R235, R240, R243). -/
def Obligations.AdvertisedModesComeBack : Prop :=
  ∀ (s : State) (st st' ta ta' : BitVec 2) (data data' : Half), Live s →
    s.mscr &&& s.params.mdioDivisorMask ≠ 0 → s.params.phyAttached = true →
    ∃ t u, exec (.mmfrWr (mmfrFrame st 1 s.params.phyAddr 4 ta data)) s = .next t ∧
      exec (.mmfrWr (mmfrFrame st' 2 s.params.phyAddr 5 ta' data')) t = .next u ∧
      u.mmfr = mmfrFrame st' 2 s.params.phyAddr 5 ta' (0x4000 ||| (data &&& 0x01E0) ||| 0x0001)

/-- The PHY's reset bit reads back as cleared on the very next read (R239, R241). -/
def Obligations.PhyResetBitReadsBackCleared : Prop :=
  ∀ (s : State) (st st' ta ta' : BitVec 2) (data data' : Half), Live s →
    s.mscr &&& s.params.mdioDivisorMask ≠ 0 → s.params.phyAttached = true →
    ∃ t u, exec (.mmfrWr (mmfrFrame st 1 s.params.phyAddr 0 ta data)) s = .next t ∧
      exec (.mmfrWr (mmfrFrame st' 2 s.params.phyAddr 0 ta' data')) t = .next u ∧
      u.mmfr = mmfrFrame st' 2 s.params.phyAddr 0 ta' (data &&& 0x7FFF)

/-- DECODE and ENCODE are inverse at every slot address, in either byte order (R175). -/
def Obligations.DescriptorRoundTrip : Prop :=
  ∀ (s : State) (d : Desc) (a : Word), s.mem.wf = true →
    (s.encodeDesc d a).decodeDesc a = d ∧
    ∀ x, (s.encodeDesc (s.decodeDesc a) a).readByte x = s.readByte x

/-- A write of RDAR re-arms receive from the slot at the cursor (R107). -/
def Obligations.RdarWriteRearms : Prop :=
  ∀ (s : State) (v : Word), Live s →
    Writes (.rdarWr v) s
      { s with rxEnabled := s.rxEnabled ||
          (s.ecr.getLsbD 1 && (s.decodeDesc s.rxCursor).flags.getLsbD 15) }

/-- A write of TDAR that finds nothing to do only runs UPDATE (R109, R182, R192). -/
def Obligations.TdarWriteWithoutWork : Prop :=
  ∀ (s : State) (v : Word), Live s →
    (s.ecr.getLsbD 1 = false ∨ (s.params.tdarRequiresBit24 = true ∧ v.getLsbD 24 = false) ∨
      (s.decodeDesc s.txCursor).flags.getLsbD 15 = false) →
    Writes (.tdarWr v) s s

/-- A ready slot with L set sends one frame, is handed back and moves the cursor, where the pass
is bound to one slot or meets no other (R183, R184, R185, R186, R187, R188, R189, R190). -/
def Obligations.TransmitSendsAOneSlotFrame : Prop :=
  ∀ (s : State) (v : Word) (d : Desc) (e : Word), Live s →
    s.ecr.getLsbD 1 = true → (s.params.tdarRequiresBit24 = true → v.getLsbD 24 = true) →
    s.params.maxDescPerPass ≠ some 0 →
    d = s.decodeDesc s.txCursor → d.owned = true → d.last = true →
    e = (if d.wrap then s.etdsr else s.txCursor + 8) →
    (s.params.maxDescPerPass = some 1 ∨
      ((s.encodeDesc { d with flags := d.flags &&& 0x7FFF } s.txCursor).decodeDesc e).owned = false) →
    Writes (.tdarWr v) s
      { s with mem := (s.encodeDesc { d with flags := d.flags &&& 0x7FFF } s.txCursor).mem
               sent := s.sent ++ [s.readBytes d.buffer (min d.length.toNat 2032)]
               eir := s.eir ||| 0x0C000000 ||| (if d.length.toNat > 2032 then 0x20000000 else 0)
               txCursor := e }

/-- What a write of TDAR leaves unchanged (R190, R189, R186, R183). -/
def Obligations.TransmitChangesOnlyItsOwn : Prop :=
  ∀ (s t : State) (v : Word), exec (.tdarWr v) s = .next t →
    AfterUpdate s t ∧
    t = { s with mem := t.mem, eir := t.eir, sent := t.sent, txCursor := t.txCursor, answer := .none
                 irqState := t.irqState, lines := t.lines, setLineCalls := t.setLineCalls } ∧
    s.eir &&& ~~~t.eir = 0 ∧ t.eir &&& ~~~s.eir &&& ~~~0x2C000000 = 0 ∧
    (∃ fs, t.sent = s.sent ++ fs ∧ ∀ f ∈ fs, f.length ≤ 2032) ∧
    ∀ x, (∀ a ∈ txSlots s.txLimit s.txCursor [] s,
        s.ecr.getLsbD 1 = true → (s.params.tdarRequiresBit24 = true → v.getLsbD 24 = true) →
        ¬ InSpan a 8 x) → t.readByte x = s.readByte x

/-- A pass clears the ready bit of every slot it hands back and changes no other bit of memory
(R186, R188, R190, R192). -/
def Obligations.TransmitPassClearsReadyBits : Prop :=
  ∀ (s t : State) (v : Word), s.mem.wf = true →
    s.ecr.getLsbD 1 = true → (s.params.tdarRequiresBit24 = true → v.getLsbD 24 = true) →
    exec (.tdarWr v) s = .next t →
    (∀ a ∈ txSlots s.txLimit s.txCursor [] s, (t.decodeDesc a).owned = false) ∧
    ∀ x, t.readByte x =
      if x ∈ (txSlots s.txLimit s.txCursor [] s).map (flagByte s.params.devEndian) then
        s.readByte x &&& 0x7F
      else s.readByte x

/-- A transmit pass ends at a slot that is not ready, or where it is bound, after as many slots as
its bound (R188, R182, R187, R189). -/
def Obligations.TransmitPassEndsAtASlotNotReady : Prop :=
  ∀ (s t : State) (v : Word), s.mem.wf = true →
    s.ecr.getLsbD 1 = true → (s.params.tdarRequiresBit24 = true → v.getLsbD 24 = true) →
    exec (.tdarWr v) s = .next t →
    ((t.decodeDesc t.txCursor).owned = false ∨
      s.params.maxDescPerPass = some (txSlots s.txLimit s.txCursor [] s).length) ∧
    (∀ m, s.params.maxDescPerPass = some m → (txSlots s.txLimit s.txCursor [] s).length ≤ m) ∧
    t.txCursor =
      match (txSlots s.txLimit s.txCursor [] s).getLast? with
      | none => s.txCursor
      | some a => if (s.decodeDesc a).wrap then s.etdsr else a + 8

/-- A pass over N ready slots sends one frame for each L, drops a frame still open at its end, and
clears all N ready bits (R183, R184, R185, R186, R187, R188, R189, R190, R192). -/
def Obligations.TransmitReassemblesAFrame : Prop :=
  ∀ (s : State) (v : Word) (ds : List Desc) (slot : Nat → Word)
    (g : List (List Byte) × List Byte), Live s → s.mem.wf = true →
    s.ecr.getLsbD 1 = true → (s.params.tdarRequiresBit24 = true → v.getLsbD 24 = true) →
    0 < ds.length → ds.length ≤ 4294967296 → slot 0 = s.txCursor →
    (∀ (k : Nat) (hk : k < ds.length),
      s.decodeDesc (slot k) = ds[k] ∧ ds[k].owned = true ∧
      slot (k + 1) = (if ds[k].wrap then s.etdsr else slot k + 8) ∧
      (∀ j < ds.length, j ≠ k → ∀ x, InSpan (slot k) 8 x → ¬ InSpan (slot j) 8 x) ∧
      ∀ j < k, ∀ x, InSpan ds[k].buffer ds[k].length.toNat x → ¬ InSpan (slot j) 8 x) →
    (s.params.maxDescPerPass = some ds.length ∨
      ((∀ m, s.params.maxDescPerPass = some m → ds.length < m) ∧
        ((s.decodeDesc (slot ds.length)).owned = false ∨ ∃ k < ds.length, slot ds.length = slot k))) →
    g = gathered [] (ds.map fun d => (d.last, s.readBytes d.buffer d.length.toNat)) →
    ∃ t, exec (.tdarWr v) s = .next t ∧
      t.sent = s.sent ++ g.1.map (List.take 2032) ∧
      (∀ (k : Nat) (hk : k < ds.length),
        t.decodeDesc (slot k) = { ds[k] with flags := ds[k].flags &&& 0x7FFF }) ∧
      t.txCursor = slot ds.length ∧
      t.eir = s.eir ||| 0x04000000 ||| (if g.1 = [] then 0 else 0x08000000) |||
        (if ∃ f ∈ g.1 ++ [g.2], 2032 < f.length then 0x20000000 else 0)

/-- A receive with a drawn trailer is the receive with the next draw (the form of the draw is the
model's, log 3) (R202, R213). -/
def Obligations.ReceiveWithADrawnTrailer : Prop :=
  ∀ (s : State) (frame : List Byte), Live s →
    (∃ t, exec (.receive frame none) s = .next t) ∧
    exec (.receive frame none) s =
      exec (.receive frame (some (Config.rxTrailer s.draws))) { s with draws := s.draws + 1 }

/-- A frame that fits one empty slot is delivered whole with its trailer (R203, R204, R205, R207,
R208, R209, R210, R211, R212, R213). -/
def Obligations.ReceiveIntoOneSlot : Prop :=
  ∀ (s : State) (frame : List Byte) (tr : Trailer) (d : Desc) (e : Word) (u : State), Live s →
    d = s.decodeDesc s.rxCursor → d.owned = true →
    min (frame.length + 4) 2032 ≤ s.emrbr.toNat →
    e = (if d.wrap then s.erdsr else s.rxCursor + 8) →
    u = (s.writeBytes d.buffer (frame.take (min (frame.length + 4) 2032 - 4) ++
          [tr.t0, tr.t1, tr.t2, tr.t3])).encodeDesc
        { flags := (d.flags &&& 0x7FFF) ||| 0x0800 |||
            (if frame.length + 4 > 2032 then 0x0021
             else if frame.length + 4 > (s.rcr >>> 16).toNat then 0x0020 else 0)
          length := BitVec.ofNat 16 (min (frame.length + 4) 2032)
          buffer := d.buffer } s.rxCursor →
    Writes (.receive frame (some tr)) s
      { s with mem := u.mem, eir := s.eir ||| 0x02000000, rxCursor := e
               rxEnabled := (u.decodeDesc e).owned }

/-- A frame that finds no empty slot at the cursor is lost with a diagnostic (that a drawn trailer
is counted is of the model, log 3) (R206, R214, R276). -/
def Obligations.ReceiveIntoNoSlot : Prop :=
  ∀ (s : State) (frame : List Byte) (draw : Option Trailer), Live s →
    (s.decodeDesc s.rxCursor).flags.getLsbD 15 = false →
    Writes (.receive frame draw) s
      { s with log := s.log ++ [.lostEndOfFrame s.rxCursor], rxEnabled := false
               draws := if draw = none then s.draws + 1 else s.draws }

/-- What a RECEIVE leaves unchanged (R213, R209, R210, R206, R208). -/
def Obligations.ReceiveChangesOnlyItsOwn : Prop :=
  ∀ (s t : State) (frame : List Byte) (draw : Option Trailer),
    exec (.receive frame draw) s = .next t →
    AfterUpdate s t ∧
    t = { s with mem := t.mem, eir := t.eir, log := t.log, rxCursor := t.rxCursor
                 rxEnabled := t.rxEnabled, draws := t.draws, answer := .none
                 irqState := t.irqState, lines := t.lines, setLineCalls := t.setLineCalls } ∧
    s.eir &&& ~~~t.eir = 0 ∧ t.eir &&& ~~~s.eir &&& ~~~0x03000000 = 0 ∧
    (t.log = s.log ∨ t.log = s.log ++ [.lostEndOfFrame t.rxCursor]) ∧
    ∀ x, (∀ p ∈ receiveSpans s frame draw, ¬ InSpan p.1 p.2 x) → t.readByte x = s.readByte x

/-- A receive pass ends with the frame delivered and RXF set, or at a slot that is not empty with
a diagnostic and no RXF (R206, R210, R212, R214, R276). -/
def Obligations.ReceiveEndsDeliveredOrLogged : Prop :=
  ∀ (s t : State) (frame : List Byte) (draw : Option Trailer), s.mem.wf = true →
    exec (.receive frame draw) s = .next t →
    ((t.log = s.log ∧ t.eir = s.eir ||| 0x02000000 |||
        (if 2 < (receiveSpans s frame draw).length then 0x01000000 else 0)) ∨
     (t.log = s.log ++ [.lostEndOfFrame t.rxCursor] ∧ (t.decodeDesc t.rxCursor).owned = false ∧
       t.eir = s.eir ||| (if receiveSpans s frame draw = [] then 0 else 0x01000000))) ∧
    t.rxEnabled = (t.decodeDesc t.rxCursor).owned

/-- A frame is split across the slots it needs, its trailer spliced across a boundary, or across
the empty slots there are, its end lost (R205, R206, R207, R208, R209, R210, R211, R212, R213,
R214, R276). -/
def Obligations.ReceiveSplitsAFrame : Prop :=
  ∀ (s : State) (frame : List Byte) (tr : Trailer) (ds : List Desc) (slot : Nat → Word)
    (S : List Byte) (m : Nat), Live s → s.mem.wf = true →
    m = s.emrbr.toNat → ds.length ≤ 4294967296 → slot 0 = s.rxCursor →
    S = frame.take (min (frame.length + 4) 2032 - 4) ++ [tr.t0, tr.t1, tr.t2, tr.t3] →
    (∀ (k : Nat) (hk : k < ds.length),
      s.decodeDesc (slot k) = ds[k] ∧ ds[k].owned = true ∧
      slot (k + 1) = (if ds[k].wrap then s.erdsr else slot k + 8) ∧
      ∀ (j : Nat) (hj : j < ds.length),
        (j ≠ k → ∀ x, InSpan (slot k) 8 x → ¬ InSpan (slot j) 8 x) ∧
        ∀ x, InSpan ds[k].buffer (min m (S.length - k * m)) x →
          ¬ InSpan (slot j) 8 x ∧
          (j ≠ k → ¬ InSpan ds[j].buffer (min m (S.length - j * m)) x)) →
    ((ds.length - 1) * m < S.length ∧ S.length ≤ ds.length * m ∨
      ds.length * m < S.length ∧
        ((∃ k < ds.length, slot ds.length = slot k) ∨
          (s.decodeDesc (slot ds.length)).owned = false ∧
          ∀ (j : Nat) (hj : j < ds.length), ∀ x, InSpan (slot ds.length) 8 x →
            ¬ InSpan (slot j) 8 x ∧ ¬ InSpan ds[j].buffer (min m (S.length - j * m)) x)) →
    ∃ t, exec (.receive frame (some tr)) s = .next t ∧
      (∀ (k : Nat) (hk : k < ds.length),
        t.readBytes ds[k].buffer (min m (S.length - k * m)) = (S.drop (k * m)).take m ∧
        t.decodeDesc (slot k) =
          { flags := if k + 1 = ds.length ∧ S.length ≤ ds.length * m then
                (ds[k].flags &&& 0x7FFF) ||| 0x0800 |||
                  (if frame.length + 4 > 2032 then 0x0021
                   else if frame.length + 4 > (s.rcr >>> 16).toNat then 0x0020 else 0)
              else ds[k].flags &&& 0x7FFF
            length := BitVec.ofNat 16 (min m (S.length - k * m))
            buffer := ds[k].buffer }) ∧
      t.rxCursor = slot ds.length ∧
      (if S.length ≤ ds.length * m then
        t.eir = s.eir ||| 0x02000000 ||| (if 1 < ds.length then 0x01000000 else 0) ∧ t.log = s.log
      else
        t.eir = s.eir ||| (if 0 < ds.length then 0x01000000 else 0) ∧
        t.log = s.log ++ [.lostEndOfFrame (slot ds.length)]) ∧
      t.rxEnabled = (t.decodeDesc t.rxCursor).owned

/-- CAN_RECEIVE answers the cached flag; SET_LINK changes the link flag only (R247). -/
def Obligations.CanReceiveAndSetLink : Prop :=
  ∀ (s : State) (b : Bool), Live s →
    exec .canReceive s = .next { s with answer := .bool s.rxEnabled } ∧
    exec (.setLink b) s = .next { s with linkUp := b, answer := .none }

/-- CONSTRUCT gives every register its construction value (what is not of the block stays, log 13)
(R300). -/
def Obligations.ConstructInitialises : Prop :=
  ∀ (s : State) (p : Params), Live s →
    exec (.construct p) s = .next
      { params := p, eir := 0, eimr := 0, ecr := 0, mmfr := 0, mscr := 0, rcr := 0x05EE0001, tcr := 0
        tfwr := 0, rfsr := 0x00000500, erdsr := 0, etdsr := 0, emrbr := 0, gask0 := 0, gask1 := 0
        mac := p.mac0, txCursor := 0, rxCursor := 0, rxEnabled := false, irqState := 0
        phy := p.phyRegReset, linkUp := p.linkUpInit, fatal := none
        lines := Vector.replicate 13 false, sent := [], log := []
        mem := s.mem, pending := s.pending, answer := .none, draws := s.draws, setLineCalls := [] }

/-- The reset state is the block constructed with the parameters the model names (logs 5, 6, 7)
(R48, R300). -/
def Obligations.ResetIsAConstructedBlock : Prop :=
  exec (.construct Config.defaultParams) State.reset = .next State.reset ∧
  State.reset.rcr = 0x05EE0001 ∧ State.reset.rfsr = 0x00000500 ∧
  State.reset.eir = 0 ∧ State.reset.eimr = 0 ∧ State.reset.ecr = 0 ∧ State.reset.mmfr = 0 ∧
  State.reset.mscr = 0 ∧ State.reset.tcr = 0 ∧ State.reset.tfwr = 0 ∧ State.reset.erdsr = 0 ∧
  State.reset.etdsr = 0 ∧ State.reset.emrbr = 0 ∧ State.reset.gask0 = 0 ∧ State.reset.gask1 = 0 ∧
  State.reset.txCursor = 0 ∧ State.reset.rxCursor = 0 ∧ State.reset.rxEnabled = false ∧
  State.reset.irqState = 0 ∧ (∀ i : Fin 13, State.reset.lines[i] = false) ∧
  State.reset.fatal = none ∧ State.reset.sent = [] ∧ State.reset.log = []

/-- No line is driven and no level changes where the active set does not (R279, R281). -/
def Obligations.LinesAreDrivenOnlyOnEdges : Prop :=
  ∀ (i : Instr) (s t : State), exec i s = .next t → (∀ p, i ≠ .construct p) →
    t.irqState = s.irqState → t.setLineCalls = s.setLineCalls ∧ t.lines = s.lines

/-- A value that newly unmasks one event toggles exactly its line active (R279, R281). -/
def Obligations.NewEventDrivesExactlyItsLine : Prop :=
  ∀ (s : State) (v : Word) (i : Fin 13), Live s →
    (s.eir &&& v) ^^^ s.irqState = lineMask i → s.irqState &&& lineMask i = 0 →
    ∃ t, exec (.eimrWr v) s = .next t ∧ t.setLineCalls = s.setLineCalls ++ [(i, true)] ∧
      ∀ j : Fin 13, t.lines[j] = if j = i then true else s.lines[j]

/-- Only a write-1-to-clear of EIR, a software reset or construction clears an event (R278, R103,
R301). -/
def Obligations.EventsAreClearedOnlyByWriteOneOrReset : Prop :=
  ∀ (i : Instr) (s t : State), exec i s = .next t → s.eir &&& ~~~t.eir ≠ 0 →
    (∃ v, i = .eirWr v ∧ s.eir &&& ~~~t.eir &&& ~~~v = 0) ∨
    (∃ v, i = .ecrWr v ∧ v.getLsbD 0 = true) ∨ ∃ p, i = .construct p

/-- No operation sets HB, BABR, EB, LC, RL, UN or a reserved EIR bit (R277, R23, R275). -/
def Obligations.NeverSetEventsStayClear : Prop :=
  ∀ (i : Instr) (s t : State), exec i s = .next t → t.eir &&& ~~~s.eir &&& ~~~0x3F800000 = 0

/-- Which operations write the ring cursors and the receive-enabled flag (R39, R40, R41). -/
def Obligations.CursorAndEnableWriters : Prop :=
  ∀ (i : Instr) (s t : State), exec i s = .next t →
    (t.txCursor ≠ s.txCursor → busCommand i = some 0x584 ∨ busCommand i = some 0x414 ∨
      busCommand i = some 0x424 ∨ isHost i 0 = true) ∧
    (t.rxCursor ≠ s.rxCursor → busCommand i = some 0x580 ∨ busCommand i = some 0x424 ∨
      isHost i 2 = true ∨ isHost i 0 = true) ∧
    (s.rxEnabled = false ∧ t.rxEnabled = true →
      (busCommand i = some 0x410 ∧ s.ecr.getLsbD 1 = true) ∨ isHost i 2 = true) ∧
    (s.rxEnabled = true ∧ t.rxEnabled = false →
      busCommand i = some 0x424 ∨ isHost i 2 = true ∨ isHost i 0 = true)

/-- Only a write of TDAR and RECEIVE write guest memory, and only TDAR sends frames (R60, R180). -/
def Obligations.MemoryIsReachedOnlyByTheEngines : Prop :=
  ∀ (i : Instr) (s t : State), exec i s = .next t →
    (t.mem ≠ s.mem → busCommand i = some 0x414 ∨ isHost i 2 = true) ∧
    (t.sent ≠ s.sent → busCommand i = some 0x414 ∨ isHost i 0 = true)

/-- Which operations write the PHY registers and the link flag (R43, R44, R247, R302). -/
def Obligations.PhyIsReachedOnlyThroughTheManagementBus : Prop :=
  ∀ (i : Instr) (s t : State), exec i s = .next t →
    (t.phy ≠ s.phy → busCommand i = some 0x440 ∨ busCommand i = some 0x444 ∨ isFrame i = true ∨
      isPhyWrite i = true ∨ isHost i 0 = true) ∧
    (t.linkUp ≠ s.linkUp → isHost i 3 = true ∨ isHost i 0 = true)

/-- The station address and the construction parameters survive every other operation (R8, R35,
R302). -/
def Obligations.AddressAndParametersPersist : Prop :=
  ∀ (i : Instr) (s t : State), exec i s = .next t →
    (t.mac ≠ s.mac → busCommand i = some 0x4E4 ∨ busCommand i = some 0x4E8 ∨ isHost i 0 = true) ∧
    (t.params ≠ s.params → isHost i 0 = true) ∧ t.pending = s.pending ∧ Live t

/-- Every step keeps the invariant (R49(a) as far as the cursor advance of R177 keeps it, log 17)
(R49, R25, R27, R28, R30, R31, R34, R39, R183, R277, R281). -/
def Obligations.StepKeepsTheInvariant : Prop :=
  ∀ s t : State, Inv s → step s = .next t → Inv t

/-- The reset state has the invariant (R48, R49). -/
def Obligations.ResetHasTheInvariant : Prop :=
  Inv State.reset

/-- Where the transport polls can_receive, receive is enabled only while ETHER_EN is 1 (R49). -/
def Obligations.ReceiveEnabledImpliesEtherEnabled : Prop :=
  ∀ (i : Instr) (s t : State), exec i s = .next t →
    (∀ frame draw, i = .receive frame draw → s.rxEnabled = true) →
    (s.rxEnabled = true → s.ecr.getLsbD 1 = true) → t.rxEnabled = true → t.ecr.getLsbD 1 = true
end

