-- ==== Sys2Proof/Laws/Decode.lean ====
section
/-! SUPPORT. The fields of a management frame (30_encoding.md R84), each way, and the table lookup. -/

namespace Sys2Proof

variable (st op : BitVec 2) (pa ra : BitVec 5) (ta : BitVec 2) (data : Half)

/-- The bits of a frame, one field after the other. -/
theorem getLsbD_mmfrFrame (i : Nat) :
    (mmfrFrame st op pa ra ta data).getLsbD i =
      if i < 16 then data.getLsbD i else
      if i < 18 then ta.getLsbD (i - 16) else
      if i < 23 then ra.getLsbD (i - 18) else
      if i < 28 then pa.getLsbD (i - 23) else
      if i < 30 then op.getLsbD (i - 28) else st.getLsbD (i - 30) := by
  simp only [mmfrFrame, BitVec.getLsbD_append]
  by_cases h : i < 16
  · rw [if_pos h, if_pos h]
  · simp only [Nat.sub_sub, Nat.reduceAdd, h, if_false,
      show i - 16 < 2 ↔ i < 18 by omega, show i - 18 < 5 ↔ i < 23 by omega,
      show i - 23 < 5 ↔ i < 28 by omega, show i - 28 < 2 ↔ i < 30 by omega]

@[simp] theorem frameSt_mmfrFrame : frameSt (mmfrFrame st op pa ra ta data) = st := by
  ext i hi
  simp only [frameSt, BitVec.getElem_extractLsb', getLsbD_mmfrFrame]
  rw [if_neg (by omega), if_neg (by omega), if_neg (by omega), if_neg (by omega),
    if_neg (by omega), ← BitVec.getLsbD_eq_getElem]
  congr 1; omega

@[simp] theorem frameOp_mmfrFrame : frameOp (mmfrFrame st op pa ra ta data) = op := by
  ext i hi
  simp only [frameOp, BitVec.getElem_extractLsb', getLsbD_mmfrFrame]
  rw [if_neg (by omega), if_neg (by omega), if_neg (by omega), if_neg (by omega),
    if_pos (by omega), ← BitVec.getLsbD_eq_getElem]
  congr 1; omega

@[simp] theorem framePa_mmfrFrame : framePa (mmfrFrame st op pa ra ta data) = pa := by
  ext i hi
  simp only [framePa, BitVec.getElem_extractLsb', getLsbD_mmfrFrame]
  rw [if_neg (by omega), if_neg (by omega), if_neg (by omega), if_pos (by omega),
    ← BitVec.getLsbD_eq_getElem]
  congr 1; omega

@[simp] theorem frameRa_mmfrFrame : frameRa (mmfrFrame st op pa ra ta data) = ra := by
  ext i hi
  simp only [frameRa, BitVec.getElem_extractLsb', getLsbD_mmfrFrame]
  rw [if_neg (by omega), if_neg (by omega), if_pos (by omega), ← BitVec.getLsbD_eq_getElem]
  congr 1; omega

@[simp] theorem frameTa_mmfrFrame : frameTa (mmfrFrame st op pa ra ta data) = ta := by
  ext i hi
  simp only [frameTa, BitVec.getElem_extractLsb', getLsbD_mmfrFrame]
  rw [if_neg (by omega), if_pos (by omega), ← BitVec.getLsbD_eq_getElem]
  congr 1; omega

@[simp] theorem frameData_mmfrFrame : frameData (mmfrFrame st op pa ra ta data) = data := by
  ext i hi
  simp only [frameData, BitVec.getElem_extractLsb', getLsbD_mmfrFrame]
  rw [if_pos (by omega), ← BitVec.getLsbD_eq_getElem]
  congr 1; omega

/-- A frame is its fields. -/
@[simp] theorem mmfrFrame_fields (v : Word) :
    mmfrFrame (frameSt v) (frameOp v) (framePa v) (frameRa v) (frameTa v) (frameData v) = v := by
  apply BitVec.eq_of_getLsbD_eq
  intro i hi
  rw [getLsbD_mmfrFrame]
  simp only [frameSt, frameOp, framePa, frameRa, frameTa, frameData, BitVec.getLsbD_extractLsb']
  split
  · simp [*]
  · split
    · rw [show 16 + (i - 16) = i by omega]; simp; omega
    · split
      · rw [show 18 + (i - 18) = i by omega]; simp; omega
      · split
        · rw [show 23 + (i - 23) = i by omega]; simp; omega
        · split
          · rw [show 28 + (i - 28) = i by omega]; simp; omega
          · rw [show 30 + (i - 30) = i by omega]; simp; omega

/-- What a lookup finds stands in the table under its key. -/
theorem mem_of_lookup {α : Type} {k : Nat} {t : List (Nat × α)} {a : α} (h : lookup k t = some a) :
    (k, a) ∈ t := by
  induction t with
  | nil => cases h
  | cons p t ih =>
    obtain ⟨k', a'⟩ := p
    rw [lookup] at h
    split at h
    · cases h; simp [*]
    · exact List.mem_cons_of_mem _ (ih h)

end Sys2Proof
end

