-- ==== Sys2Proof/Laws/State.lean ====
section
/-! SUPPORT. What each named update of the state does to each field: one lemma per field per update,
so that no later proof unfolds a record update. -/

namespace Sys2Proof.Machine

variable (s : State)

/-! ### `State.raise` -/

@[simp] theorem State.raise_params (e : Word) : (s.raise e).params = s.params := rfl
@[simp] theorem State.raise_eir (e : Word) : (s.raise e).eir = s.eir ||| e := rfl
@[simp] theorem State.raise_eimr (e : Word) : (s.raise e).eimr = s.eimr := rfl
@[simp] theorem State.raise_ecr (e : Word) : (s.raise e).ecr = s.ecr := rfl
@[simp] theorem State.raise_mmfr (e : Word) : (s.raise e).mmfr = s.mmfr := rfl
@[simp] theorem State.raise_mscr (e : Word) : (s.raise e).mscr = s.mscr := rfl
@[simp] theorem State.raise_rcr (e : Word) : (s.raise e).rcr = s.rcr := rfl
@[simp] theorem State.raise_tcr (e : Word) : (s.raise e).tcr = s.tcr := rfl
@[simp] theorem State.raise_tfwr (e : Word) : (s.raise e).tfwr = s.tfwr := rfl
@[simp] theorem State.raise_rfsr (e : Word) : (s.raise e).rfsr = s.rfsr := rfl
@[simp] theorem State.raise_erdsr (e : Word) : (s.raise e).erdsr = s.erdsr := rfl
@[simp] theorem State.raise_etdsr (e : Word) : (s.raise e).etdsr = s.etdsr := rfl
@[simp] theorem State.raise_emrbr (e : Word) : (s.raise e).emrbr = s.emrbr := rfl
@[simp] theorem State.raise_gask0 (e : Word) : (s.raise e).gask0 = s.gask0 := rfl
@[simp] theorem State.raise_gask1 (e : Word) : (s.raise e).gask1 = s.gask1 := rfl
@[simp] theorem State.raise_mac (e : Word) : (s.raise e).mac = s.mac := rfl
@[simp] theorem State.raise_txCursor (e : Word) : (s.raise e).txCursor = s.txCursor := rfl
@[simp] theorem State.raise_rxCursor (e : Word) : (s.raise e).rxCursor = s.rxCursor := rfl
@[simp] theorem State.raise_rxEnabled (e : Word) : (s.raise e).rxEnabled = s.rxEnabled := rfl
@[simp] theorem State.raise_irqState (e : Word) : (s.raise e).irqState = s.irqState := rfl
@[simp] theorem State.raise_phy (e : Word) : (s.raise e).phy = s.phy := rfl
@[simp] theorem State.raise_linkUp (e : Word) : (s.raise e).linkUp = s.linkUp := rfl
@[simp] theorem State.raise_fatal (e : Word) : (s.raise e).fatal = s.fatal := rfl
@[simp] theorem State.raise_lines (e : Word) : (s.raise e).lines = s.lines := rfl
@[simp] theorem State.raise_sent (e : Word) : (s.raise e).sent = s.sent := rfl
@[simp] theorem State.raise_log (e : Word) : (s.raise e).log = s.log := rfl
@[simp] theorem State.raise_mem (e : Word) : (s.raise e).mem = s.mem := rfl
@[simp] theorem State.raise_pending (e : Word) : (s.raise e).pending = s.pending := rfl
@[simp] theorem State.raise_answer (e : Word) : (s.raise e).answer = s.answer := rfl
@[simp] theorem State.raise_draws (e : Word) : (s.raise e).draws = s.draws := rfl
@[simp] theorem State.raise_setLineCalls (e : Word) : (s.raise e).setLineCalls = s.setLineCalls := rfl

/-! ### `State.send` -/

@[simp] theorem State.send_params (bs : List Byte) : (s.send bs).params = s.params := rfl
@[simp] theorem State.send_eir (bs : List Byte) : (s.send bs).eir = s.eir := rfl
@[simp] theorem State.send_eimr (bs : List Byte) : (s.send bs).eimr = s.eimr := rfl
@[simp] theorem State.send_ecr (bs : List Byte) : (s.send bs).ecr = s.ecr := rfl
@[simp] theorem State.send_mmfr (bs : List Byte) : (s.send bs).mmfr = s.mmfr := rfl
@[simp] theorem State.send_mscr (bs : List Byte) : (s.send bs).mscr = s.mscr := rfl
@[simp] theorem State.send_rcr (bs : List Byte) : (s.send bs).rcr = s.rcr := rfl
@[simp] theorem State.send_tcr (bs : List Byte) : (s.send bs).tcr = s.tcr := rfl
@[simp] theorem State.send_tfwr (bs : List Byte) : (s.send bs).tfwr = s.tfwr := rfl
@[simp] theorem State.send_rfsr (bs : List Byte) : (s.send bs).rfsr = s.rfsr := rfl
@[simp] theorem State.send_erdsr (bs : List Byte) : (s.send bs).erdsr = s.erdsr := rfl
@[simp] theorem State.send_etdsr (bs : List Byte) : (s.send bs).etdsr = s.etdsr := rfl
@[simp] theorem State.send_emrbr (bs : List Byte) : (s.send bs).emrbr = s.emrbr := rfl
@[simp] theorem State.send_gask0 (bs : List Byte) : (s.send bs).gask0 = s.gask0 := rfl
@[simp] theorem State.send_gask1 (bs : List Byte) : (s.send bs).gask1 = s.gask1 := rfl
@[simp] theorem State.send_mac (bs : List Byte) : (s.send bs).mac = s.mac := rfl
@[simp] theorem State.send_txCursor (bs : List Byte) : (s.send bs).txCursor = s.txCursor := rfl
@[simp] theorem State.send_rxCursor (bs : List Byte) : (s.send bs).rxCursor = s.rxCursor := rfl
@[simp] theorem State.send_rxEnabled (bs : List Byte) : (s.send bs).rxEnabled = s.rxEnabled := rfl
@[simp] theorem State.send_irqState (bs : List Byte) : (s.send bs).irqState = s.irqState := rfl
@[simp] theorem State.send_phy (bs : List Byte) : (s.send bs).phy = s.phy := rfl
@[simp] theorem State.send_linkUp (bs : List Byte) : (s.send bs).linkUp = s.linkUp := rfl
@[simp] theorem State.send_fatal (bs : List Byte) : (s.send bs).fatal = s.fatal := rfl
@[simp] theorem State.send_lines (bs : List Byte) : (s.send bs).lines = s.lines := rfl
@[simp] theorem State.send_sent (bs : List Byte) : (s.send bs).sent = s.sent ++ [bs] := rfl
@[simp] theorem State.send_log (bs : List Byte) : (s.send bs).log = s.log := rfl
@[simp] theorem State.send_mem (bs : List Byte) : (s.send bs).mem = s.mem := rfl
@[simp] theorem State.send_pending (bs : List Byte) : (s.send bs).pending = s.pending := rfl
@[simp] theorem State.send_answer (bs : List Byte) : (s.send bs).answer = s.answer := rfl
@[simp] theorem State.send_draws (bs : List Byte) : (s.send bs).draws = s.draws := rfl
@[simp] theorem State.send_setLineCalls (bs : List Byte) : (s.send bs).setLineCalls = s.setLineCalls := rfl

/-! ### `State.note` -/

@[simp] theorem State.note_params (r : LogRecord) : (s.note r).params = s.params := rfl
@[simp] theorem State.note_eir (r : LogRecord) : (s.note r).eir = s.eir := rfl
@[simp] theorem State.note_eimr (r : LogRecord) : (s.note r).eimr = s.eimr := rfl
@[simp] theorem State.note_ecr (r : LogRecord) : (s.note r).ecr = s.ecr := rfl
@[simp] theorem State.note_mmfr (r : LogRecord) : (s.note r).mmfr = s.mmfr := rfl
@[simp] theorem State.note_mscr (r : LogRecord) : (s.note r).mscr = s.mscr := rfl
@[simp] theorem State.note_rcr (r : LogRecord) : (s.note r).rcr = s.rcr := rfl
@[simp] theorem State.note_tcr (r : LogRecord) : (s.note r).tcr = s.tcr := rfl
@[simp] theorem State.note_tfwr (r : LogRecord) : (s.note r).tfwr = s.tfwr := rfl
@[simp] theorem State.note_rfsr (r : LogRecord) : (s.note r).rfsr = s.rfsr := rfl
@[simp] theorem State.note_erdsr (r : LogRecord) : (s.note r).erdsr = s.erdsr := rfl
@[simp] theorem State.note_etdsr (r : LogRecord) : (s.note r).etdsr = s.etdsr := rfl
@[simp] theorem State.note_emrbr (r : LogRecord) : (s.note r).emrbr = s.emrbr := rfl
@[simp] theorem State.note_gask0 (r : LogRecord) : (s.note r).gask0 = s.gask0 := rfl
@[simp] theorem State.note_gask1 (r : LogRecord) : (s.note r).gask1 = s.gask1 := rfl
@[simp] theorem State.note_mac (r : LogRecord) : (s.note r).mac = s.mac := rfl
@[simp] theorem State.note_txCursor (r : LogRecord) : (s.note r).txCursor = s.txCursor := rfl
@[simp] theorem State.note_rxCursor (r : LogRecord) : (s.note r).rxCursor = s.rxCursor := rfl
@[simp] theorem State.note_rxEnabled (r : LogRecord) : (s.note r).rxEnabled = s.rxEnabled := rfl
@[simp] theorem State.note_irqState (r : LogRecord) : (s.note r).irqState = s.irqState := rfl
@[simp] theorem State.note_phy (r : LogRecord) : (s.note r).phy = s.phy := rfl
@[simp] theorem State.note_linkUp (r : LogRecord) : (s.note r).linkUp = s.linkUp := rfl
@[simp] theorem State.note_fatal (r : LogRecord) : (s.note r).fatal = s.fatal := rfl
@[simp] theorem State.note_lines (r : LogRecord) : (s.note r).lines = s.lines := rfl
@[simp] theorem State.note_sent (r : LogRecord) : (s.note r).sent = s.sent := rfl
@[simp] theorem State.note_log (r : LogRecord) : (s.note r).log = s.log ++ [r] := rfl
@[simp] theorem State.note_mem (r : LogRecord) : (s.note r).mem = s.mem := rfl
@[simp] theorem State.note_pending (r : LogRecord) : (s.note r).pending = s.pending := rfl
@[simp] theorem State.note_answer (r : LogRecord) : (s.note r).answer = s.answer := rfl
@[simp] theorem State.note_draws (r : LogRecord) : (s.note r).draws = s.draws := rfl
@[simp] theorem State.note_setLineCalls (r : LogRecord) : (s.note r).setLineCalls = s.setLineCalls := rfl

/-! ### `State.reply` -/

@[simp] theorem State.reply_params (a : Answer) : (s.reply a).params = s.params := rfl
@[simp] theorem State.reply_eir (a : Answer) : (s.reply a).eir = s.eir := rfl
@[simp] theorem State.reply_eimr (a : Answer) : (s.reply a).eimr = s.eimr := rfl
@[simp] theorem State.reply_ecr (a : Answer) : (s.reply a).ecr = s.ecr := rfl
@[simp] theorem State.reply_mmfr (a : Answer) : (s.reply a).mmfr = s.mmfr := rfl
@[simp] theorem State.reply_mscr (a : Answer) : (s.reply a).mscr = s.mscr := rfl
@[simp] theorem State.reply_rcr (a : Answer) : (s.reply a).rcr = s.rcr := rfl
@[simp] theorem State.reply_tcr (a : Answer) : (s.reply a).tcr = s.tcr := rfl
@[simp] theorem State.reply_tfwr (a : Answer) : (s.reply a).tfwr = s.tfwr := rfl
@[simp] theorem State.reply_rfsr (a : Answer) : (s.reply a).rfsr = s.rfsr := rfl
@[simp] theorem State.reply_erdsr (a : Answer) : (s.reply a).erdsr = s.erdsr := rfl
@[simp] theorem State.reply_etdsr (a : Answer) : (s.reply a).etdsr = s.etdsr := rfl
@[simp] theorem State.reply_emrbr (a : Answer) : (s.reply a).emrbr = s.emrbr := rfl
@[simp] theorem State.reply_gask0 (a : Answer) : (s.reply a).gask0 = s.gask0 := rfl
@[simp] theorem State.reply_gask1 (a : Answer) : (s.reply a).gask1 = s.gask1 := rfl
@[simp] theorem State.reply_mac (a : Answer) : (s.reply a).mac = s.mac := rfl
@[simp] theorem State.reply_txCursor (a : Answer) : (s.reply a).txCursor = s.txCursor := rfl
@[simp] theorem State.reply_rxCursor (a : Answer) : (s.reply a).rxCursor = s.rxCursor := rfl
@[simp] theorem State.reply_rxEnabled (a : Answer) : (s.reply a).rxEnabled = s.rxEnabled := rfl
@[simp] theorem State.reply_irqState (a : Answer) : (s.reply a).irqState = s.irqState := rfl
@[simp] theorem State.reply_phy (a : Answer) : (s.reply a).phy = s.phy := rfl
@[simp] theorem State.reply_linkUp (a : Answer) : (s.reply a).linkUp = s.linkUp := rfl
@[simp] theorem State.reply_fatal (a : Answer) : (s.reply a).fatal = s.fatal := rfl
@[simp] theorem State.reply_lines (a : Answer) : (s.reply a).lines = s.lines := rfl
@[simp] theorem State.reply_sent (a : Answer) : (s.reply a).sent = s.sent := rfl
@[simp] theorem State.reply_log (a : Answer) : (s.reply a).log = s.log := rfl
@[simp] theorem State.reply_mem (a : Answer) : (s.reply a).mem = s.mem := rfl
@[simp] theorem State.reply_pending (a : Answer) : (s.reply a).pending = s.pending := rfl
@[simp] theorem State.reply_answer (a : Answer) : (s.reply a).answer = a := rfl
@[simp] theorem State.reply_draws (a : Answer) : (s.reply a).draws = s.draws := rfl
@[simp] theorem State.reply_setLineCalls (a : Answer) : (s.reply a).setLineCalls = s.setLineCalls := rfl

/-! ### `State.setLine` -/

@[simp] theorem State.setLine_params (i : Fin 13) (b : Bool) : (s.setLine i b).params = s.params := rfl
@[simp] theorem State.setLine_eir (i : Fin 13) (b : Bool) : (s.setLine i b).eir = s.eir := rfl
@[simp] theorem State.setLine_eimr (i : Fin 13) (b : Bool) : (s.setLine i b).eimr = s.eimr := rfl
@[simp] theorem State.setLine_ecr (i : Fin 13) (b : Bool) : (s.setLine i b).ecr = s.ecr := rfl
@[simp] theorem State.setLine_mmfr (i : Fin 13) (b : Bool) : (s.setLine i b).mmfr = s.mmfr := rfl
@[simp] theorem State.setLine_mscr (i : Fin 13) (b : Bool) : (s.setLine i b).mscr = s.mscr := rfl
@[simp] theorem State.setLine_rcr (i : Fin 13) (b : Bool) : (s.setLine i b).rcr = s.rcr := rfl
@[simp] theorem State.setLine_tcr (i : Fin 13) (b : Bool) : (s.setLine i b).tcr = s.tcr := rfl
@[simp] theorem State.setLine_tfwr (i : Fin 13) (b : Bool) : (s.setLine i b).tfwr = s.tfwr := rfl
@[simp] theorem State.setLine_rfsr (i : Fin 13) (b : Bool) : (s.setLine i b).rfsr = s.rfsr := rfl
@[simp] theorem State.setLine_erdsr (i : Fin 13) (b : Bool) : (s.setLine i b).erdsr = s.erdsr := rfl
@[simp] theorem State.setLine_etdsr (i : Fin 13) (b : Bool) : (s.setLine i b).etdsr = s.etdsr := rfl
@[simp] theorem State.setLine_emrbr (i : Fin 13) (b : Bool) : (s.setLine i b).emrbr = s.emrbr := rfl
@[simp] theorem State.setLine_gask0 (i : Fin 13) (b : Bool) : (s.setLine i b).gask0 = s.gask0 := rfl
@[simp] theorem State.setLine_gask1 (i : Fin 13) (b : Bool) : (s.setLine i b).gask1 = s.gask1 := rfl
@[simp] theorem State.setLine_mac (i : Fin 13) (b : Bool) : (s.setLine i b).mac = s.mac := rfl
@[simp] theorem State.setLine_txCursor (i : Fin 13) (b : Bool) : (s.setLine i b).txCursor = s.txCursor := rfl
@[simp] theorem State.setLine_rxCursor (i : Fin 13) (b : Bool) : (s.setLine i b).rxCursor = s.rxCursor := rfl
@[simp] theorem State.setLine_rxEnabled (i : Fin 13) (b : Bool) : (s.setLine i b).rxEnabled = s.rxEnabled := rfl
@[simp] theorem State.setLine_irqState (i : Fin 13) (b : Bool) : (s.setLine i b).irqState = s.irqState := rfl
@[simp] theorem State.setLine_phy (i : Fin 13) (b : Bool) : (s.setLine i b).phy = s.phy := rfl
@[simp] theorem State.setLine_linkUp (i : Fin 13) (b : Bool) : (s.setLine i b).linkUp = s.linkUp := rfl
@[simp] theorem State.setLine_fatal (i : Fin 13) (b : Bool) : (s.setLine i b).fatal = s.fatal := rfl
@[simp] theorem State.setLine_lines (i : Fin 13) (b : Bool) : (s.setLine i b).lines = s.lines.set i b := rfl
@[simp] theorem State.setLine_sent (i : Fin 13) (b : Bool) : (s.setLine i b).sent = s.sent := rfl
@[simp] theorem State.setLine_log (i : Fin 13) (b : Bool) : (s.setLine i b).log = s.log := rfl
@[simp] theorem State.setLine_mem (i : Fin 13) (b : Bool) : (s.setLine i b).mem = s.mem := rfl
@[simp] theorem State.setLine_pending (i : Fin 13) (b : Bool) : (s.setLine i b).pending = s.pending := rfl
@[simp] theorem State.setLine_answer (i : Fin 13) (b : Bool) : (s.setLine i b).answer = s.answer := rfl
@[simp] theorem State.setLine_draws (i : Fin 13) (b : Bool) : (s.setLine i b).draws = s.draws := rfl
@[simp] theorem State.setLine_setLineCalls (i : Fin 13) (b : Bool) : (s.setLine i b).setLineCalls = s.setLineCalls ++ [(i, b)] := rfl

/-! ### `State.writeByte` -/

@[simp] theorem State.writeByte_params (a : Word) (b : Byte) : (s.writeByte a b).params = s.params := rfl
@[simp] theorem State.writeByte_eir (a : Word) (b : Byte) : (s.writeByte a b).eir = s.eir := rfl
@[simp] theorem State.writeByte_eimr (a : Word) (b : Byte) : (s.writeByte a b).eimr = s.eimr := rfl
@[simp] theorem State.writeByte_ecr (a : Word) (b : Byte) : (s.writeByte a b).ecr = s.ecr := rfl
@[simp] theorem State.writeByte_mmfr (a : Word) (b : Byte) : (s.writeByte a b).mmfr = s.mmfr := rfl
@[simp] theorem State.writeByte_mscr (a : Word) (b : Byte) : (s.writeByte a b).mscr = s.mscr := rfl
@[simp] theorem State.writeByte_rcr (a : Word) (b : Byte) : (s.writeByte a b).rcr = s.rcr := rfl
@[simp] theorem State.writeByte_tcr (a : Word) (b : Byte) : (s.writeByte a b).tcr = s.tcr := rfl
@[simp] theorem State.writeByte_tfwr (a : Word) (b : Byte) : (s.writeByte a b).tfwr = s.tfwr := rfl
@[simp] theorem State.writeByte_rfsr (a : Word) (b : Byte) : (s.writeByte a b).rfsr = s.rfsr := rfl
@[simp] theorem State.writeByte_erdsr (a : Word) (b : Byte) : (s.writeByte a b).erdsr = s.erdsr := rfl
@[simp] theorem State.writeByte_etdsr (a : Word) (b : Byte) : (s.writeByte a b).etdsr = s.etdsr := rfl
@[simp] theorem State.writeByte_emrbr (a : Word) (b : Byte) : (s.writeByte a b).emrbr = s.emrbr := rfl
@[simp] theorem State.writeByte_gask0 (a : Word) (b : Byte) : (s.writeByte a b).gask0 = s.gask0 := rfl
@[simp] theorem State.writeByte_gask1 (a : Word) (b : Byte) : (s.writeByte a b).gask1 = s.gask1 := rfl
@[simp] theorem State.writeByte_mac (a : Word) (b : Byte) : (s.writeByte a b).mac = s.mac := rfl
@[simp] theorem State.writeByte_txCursor (a : Word) (b : Byte) : (s.writeByte a b).txCursor = s.txCursor := rfl
@[simp] theorem State.writeByte_rxCursor (a : Word) (b : Byte) : (s.writeByte a b).rxCursor = s.rxCursor := rfl
@[simp] theorem State.writeByte_rxEnabled (a : Word) (b : Byte) : (s.writeByte a b).rxEnabled = s.rxEnabled := rfl
@[simp] theorem State.writeByte_irqState (a : Word) (b : Byte) : (s.writeByte a b).irqState = s.irqState := rfl
@[simp] theorem State.writeByte_phy (a : Word) (b : Byte) : (s.writeByte a b).phy = s.phy := rfl
@[simp] theorem State.writeByte_linkUp (a : Word) (b : Byte) : (s.writeByte a b).linkUp = s.linkUp := rfl
@[simp] theorem State.writeByte_fatal (a : Word) (b : Byte) : (s.writeByte a b).fatal = s.fatal := rfl
@[simp] theorem State.writeByte_lines (a : Word) (b : Byte) : (s.writeByte a b).lines = s.lines := rfl
@[simp] theorem State.writeByte_sent (a : Word) (b : Byte) : (s.writeByte a b).sent = s.sent := rfl
@[simp] theorem State.writeByte_log (a : Word) (b : Byte) : (s.writeByte a b).log = s.log := rfl
@[simp] theorem State.writeByte_mem (a : Word) (b : Byte) : (s.writeByte a b).mem = s.mem.set a.toNat b := rfl
@[simp] theorem State.writeByte_pending (a : Word) (b : Byte) : (s.writeByte a b).pending = s.pending := rfl
@[simp] theorem State.writeByte_answer (a : Word) (b : Byte) : (s.writeByte a b).answer = s.answer := rfl
@[simp] theorem State.writeByte_draws (a : Word) (b : Byte) : (s.writeByte a b).draws = s.draws := rfl
@[simp] theorem State.writeByte_setLineCalls (a : Word) (b : Byte) : (s.writeByte a b).setLineCalls = s.setLineCalls := rfl

/-! ### `State.writeBytes` -/

@[simp] theorem State.writeBytes_params (a : Word) (bs : List Byte) : (s.writeBytes a bs).params = s.params := rfl
@[simp] theorem State.writeBytes_eir (a : Word) (bs : List Byte) : (s.writeBytes a bs).eir = s.eir := rfl
@[simp] theorem State.writeBytes_eimr (a : Word) (bs : List Byte) : (s.writeBytes a bs).eimr = s.eimr := rfl
@[simp] theorem State.writeBytes_ecr (a : Word) (bs : List Byte) : (s.writeBytes a bs).ecr = s.ecr := rfl
@[simp] theorem State.writeBytes_mmfr (a : Word) (bs : List Byte) : (s.writeBytes a bs).mmfr = s.mmfr := rfl
@[simp] theorem State.writeBytes_mscr (a : Word) (bs : List Byte) : (s.writeBytes a bs).mscr = s.mscr := rfl
@[simp] theorem State.writeBytes_rcr (a : Word) (bs : List Byte) : (s.writeBytes a bs).rcr = s.rcr := rfl
@[simp] theorem State.writeBytes_tcr (a : Word) (bs : List Byte) : (s.writeBytes a bs).tcr = s.tcr := rfl
@[simp] theorem State.writeBytes_tfwr (a : Word) (bs : List Byte) : (s.writeBytes a bs).tfwr = s.tfwr := rfl
@[simp] theorem State.writeBytes_rfsr (a : Word) (bs : List Byte) : (s.writeBytes a bs).rfsr = s.rfsr := rfl
@[simp] theorem State.writeBytes_erdsr (a : Word) (bs : List Byte) : (s.writeBytes a bs).erdsr = s.erdsr := rfl
@[simp] theorem State.writeBytes_etdsr (a : Word) (bs : List Byte) : (s.writeBytes a bs).etdsr = s.etdsr := rfl
@[simp] theorem State.writeBytes_emrbr (a : Word) (bs : List Byte) : (s.writeBytes a bs).emrbr = s.emrbr := rfl
@[simp] theorem State.writeBytes_gask0 (a : Word) (bs : List Byte) : (s.writeBytes a bs).gask0 = s.gask0 := rfl
@[simp] theorem State.writeBytes_gask1 (a : Word) (bs : List Byte) : (s.writeBytes a bs).gask1 = s.gask1 := rfl
@[simp] theorem State.writeBytes_mac (a : Word) (bs : List Byte) : (s.writeBytes a bs).mac = s.mac := rfl
@[simp] theorem State.writeBytes_txCursor (a : Word) (bs : List Byte) : (s.writeBytes a bs).txCursor = s.txCursor := rfl
@[simp] theorem State.writeBytes_rxCursor (a : Word) (bs : List Byte) : (s.writeBytes a bs).rxCursor = s.rxCursor := rfl
@[simp] theorem State.writeBytes_rxEnabled (a : Word) (bs : List Byte) : (s.writeBytes a bs).rxEnabled = s.rxEnabled := rfl
@[simp] theorem State.writeBytes_irqState (a : Word) (bs : List Byte) : (s.writeBytes a bs).irqState = s.irqState := rfl
@[simp] theorem State.writeBytes_phy (a : Word) (bs : List Byte) : (s.writeBytes a bs).phy = s.phy := rfl
@[simp] theorem State.writeBytes_linkUp (a : Word) (bs : List Byte) : (s.writeBytes a bs).linkUp = s.linkUp := rfl
@[simp] theorem State.writeBytes_fatal (a : Word) (bs : List Byte) : (s.writeBytes a bs).fatal = s.fatal := rfl
@[simp] theorem State.writeBytes_lines (a : Word) (bs : List Byte) : (s.writeBytes a bs).lines = s.lines := rfl
@[simp] theorem State.writeBytes_sent (a : Word) (bs : List Byte) : (s.writeBytes a bs).sent = s.sent := rfl
@[simp] theorem State.writeBytes_log (a : Word) (bs : List Byte) : (s.writeBytes a bs).log = s.log := rfl
@[simp] theorem State.writeBytes_mem (a : Word) (bs : List Byte) : (s.writeBytes a bs).mem = s.mem.setBytes a bs := rfl
@[simp] theorem State.writeBytes_pending (a : Word) (bs : List Byte) : (s.writeBytes a bs).pending = s.pending := rfl
@[simp] theorem State.writeBytes_answer (a : Word) (bs : List Byte) : (s.writeBytes a bs).answer = s.answer := rfl
@[simp] theorem State.writeBytes_draws (a : Word) (bs : List Byte) : (s.writeBytes a bs).draws = s.draws := rfl
@[simp] theorem State.writeBytes_setLineCalls (a : Word) (bs : List Byte) : (s.writeBytes a bs).setLineCalls = s.setLineCalls := rfl

/-! ### `State.encodeDesc` -/

@[simp] theorem State.encodeDesc_params (d : Desc) (a : Word) : (s.encodeDesc d a).params = s.params := rfl
@[simp] theorem State.encodeDesc_eir (d : Desc) (a : Word) : (s.encodeDesc d a).eir = s.eir := rfl
@[simp] theorem State.encodeDesc_eimr (d : Desc) (a : Word) : (s.encodeDesc d a).eimr = s.eimr := rfl
@[simp] theorem State.encodeDesc_ecr (d : Desc) (a : Word) : (s.encodeDesc d a).ecr = s.ecr := rfl
@[simp] theorem State.encodeDesc_mmfr (d : Desc) (a : Word) : (s.encodeDesc d a).mmfr = s.mmfr := rfl
@[simp] theorem State.encodeDesc_mscr (d : Desc) (a : Word) : (s.encodeDesc d a).mscr = s.mscr := rfl
@[simp] theorem State.encodeDesc_rcr (d : Desc) (a : Word) : (s.encodeDesc d a).rcr = s.rcr := rfl
@[simp] theorem State.encodeDesc_tcr (d : Desc) (a : Word) : (s.encodeDesc d a).tcr = s.tcr := rfl
@[simp] theorem State.encodeDesc_tfwr (d : Desc) (a : Word) : (s.encodeDesc d a).tfwr = s.tfwr := rfl
@[simp] theorem State.encodeDesc_rfsr (d : Desc) (a : Word) : (s.encodeDesc d a).rfsr = s.rfsr := rfl
@[simp] theorem State.encodeDesc_erdsr (d : Desc) (a : Word) : (s.encodeDesc d a).erdsr = s.erdsr := rfl
@[simp] theorem State.encodeDesc_etdsr (d : Desc) (a : Word) : (s.encodeDesc d a).etdsr = s.etdsr := rfl
@[simp] theorem State.encodeDesc_emrbr (d : Desc) (a : Word) : (s.encodeDesc d a).emrbr = s.emrbr := rfl
@[simp] theorem State.encodeDesc_gask0 (d : Desc) (a : Word) : (s.encodeDesc d a).gask0 = s.gask0 := rfl
@[simp] theorem State.encodeDesc_gask1 (d : Desc) (a : Word) : (s.encodeDesc d a).gask1 = s.gask1 := rfl
@[simp] theorem State.encodeDesc_mac (d : Desc) (a : Word) : (s.encodeDesc d a).mac = s.mac := rfl
@[simp] theorem State.encodeDesc_txCursor (d : Desc) (a : Word) : (s.encodeDesc d a).txCursor = s.txCursor := rfl
@[simp] theorem State.encodeDesc_rxCursor (d : Desc) (a : Word) : (s.encodeDesc d a).rxCursor = s.rxCursor := rfl
@[simp] theorem State.encodeDesc_rxEnabled (d : Desc) (a : Word) : (s.encodeDesc d a).rxEnabled = s.rxEnabled := rfl
@[simp] theorem State.encodeDesc_irqState (d : Desc) (a : Word) : (s.encodeDesc d a).irqState = s.irqState := rfl
@[simp] theorem State.encodeDesc_phy (d : Desc) (a : Word) : (s.encodeDesc d a).phy = s.phy := rfl
@[simp] theorem State.encodeDesc_linkUp (d : Desc) (a : Word) : (s.encodeDesc d a).linkUp = s.linkUp := rfl
@[simp] theorem State.encodeDesc_fatal (d : Desc) (a : Word) : (s.encodeDesc d a).fatal = s.fatal := rfl
@[simp] theorem State.encodeDesc_lines (d : Desc) (a : Word) : (s.encodeDesc d a).lines = s.lines := rfl
@[simp] theorem State.encodeDesc_sent (d : Desc) (a : Word) : (s.encodeDesc d a).sent = s.sent := rfl
@[simp] theorem State.encodeDesc_log (d : Desc) (a : Word) : (s.encodeDesc d a).log = s.log := rfl
@[simp] theorem State.encodeDesc_mem (d : Desc) (a : Word) : (s.encodeDesc d a).mem = s.mem.setBytes a
      (enc32 s.params.devEndian (d.flags ++ d.length) ++ enc32 s.params.devEndian d.buffer) := rfl
@[simp] theorem State.encodeDesc_pending (d : Desc) (a : Word) : (s.encodeDesc d a).pending = s.pending := rfl
@[simp] theorem State.encodeDesc_answer (d : Desc) (a : Word) : (s.encodeDesc d a).answer = s.answer := rfl
@[simp] theorem State.encodeDesc_draws (d : Desc) (a : Word) : (s.encodeDesc d a).draws = s.draws := rfl
@[simp] theorem State.encodeDesc_setLineCalls (d : Desc) (a : Word) : (s.encodeDesc d a).setLineCalls = s.setLineCalls := rfl

/-! ### `State.phyWrite` -/

@[simp] theorem State.phyWrite_params (ra : BitVec 5) (data : Half) : (s.phyWrite ra data).params = s.params := rfl
@[simp] theorem State.phyWrite_eir (ra : BitVec 5) (data : Half) : (s.phyWrite ra data).eir = s.eir := rfl
@[simp] theorem State.phyWrite_eimr (ra : BitVec 5) (data : Half) : (s.phyWrite ra data).eimr = s.eimr := rfl
@[simp] theorem State.phyWrite_ecr (ra : BitVec 5) (data : Half) : (s.phyWrite ra data).ecr = s.ecr := rfl
@[simp] theorem State.phyWrite_mmfr (ra : BitVec 5) (data : Half) : (s.phyWrite ra data).mmfr = s.mmfr := rfl
@[simp] theorem State.phyWrite_mscr (ra : BitVec 5) (data : Half) : (s.phyWrite ra data).mscr = s.mscr := rfl
@[simp] theorem State.phyWrite_rcr (ra : BitVec 5) (data : Half) : (s.phyWrite ra data).rcr = s.rcr := rfl
@[simp] theorem State.phyWrite_tcr (ra : BitVec 5) (data : Half) : (s.phyWrite ra data).tcr = s.tcr := rfl
@[simp] theorem State.phyWrite_tfwr (ra : BitVec 5) (data : Half) : (s.phyWrite ra data).tfwr = s.tfwr := rfl
@[simp] theorem State.phyWrite_rfsr (ra : BitVec 5) (data : Half) : (s.phyWrite ra data).rfsr = s.rfsr := rfl
@[simp] theorem State.phyWrite_erdsr (ra : BitVec 5) (data : Half) : (s.phyWrite ra data).erdsr = s.erdsr := rfl
@[simp] theorem State.phyWrite_etdsr (ra : BitVec 5) (data : Half) : (s.phyWrite ra data).etdsr = s.etdsr := rfl
@[simp] theorem State.phyWrite_emrbr (ra : BitVec 5) (data : Half) : (s.phyWrite ra data).emrbr = s.emrbr := rfl
@[simp] theorem State.phyWrite_gask0 (ra : BitVec 5) (data : Half) : (s.phyWrite ra data).gask0 = s.gask0 := rfl
@[simp] theorem State.phyWrite_gask1 (ra : BitVec 5) (data : Half) : (s.phyWrite ra data).gask1 = s.gask1 := rfl
@[simp] theorem State.phyWrite_mac (ra : BitVec 5) (data : Half) : (s.phyWrite ra data).mac = s.mac := rfl
@[simp] theorem State.phyWrite_txCursor (ra : BitVec 5) (data : Half) : (s.phyWrite ra data).txCursor = s.txCursor := rfl
@[simp] theorem State.phyWrite_rxCursor (ra : BitVec 5) (data : Half) : (s.phyWrite ra data).rxCursor = s.rxCursor := rfl
@[simp] theorem State.phyWrite_rxEnabled (ra : BitVec 5) (data : Half) : (s.phyWrite ra data).rxEnabled = s.rxEnabled := rfl
@[simp] theorem State.phyWrite_irqState (ra : BitVec 5) (data : Half) : (s.phyWrite ra data).irqState = s.irqState := rfl
@[simp] theorem State.phyWrite_phy (ra : BitVec 5) (data : Half) : (s.phyWrite ra data).phy = s.phy.set ra.toNat (if ra = 0 then data &&& ~~~0x8000 else data) := rfl
@[simp] theorem State.phyWrite_linkUp (ra : BitVec 5) (data : Half) : (s.phyWrite ra data).linkUp = s.linkUp := rfl
@[simp] theorem State.phyWrite_fatal (ra : BitVec 5) (data : Half) : (s.phyWrite ra data).fatal = s.fatal := rfl
@[simp] theorem State.phyWrite_lines (ra : BitVec 5) (data : Half) : (s.phyWrite ra data).lines = s.lines := rfl
@[simp] theorem State.phyWrite_sent (ra : BitVec 5) (data : Half) : (s.phyWrite ra data).sent = s.sent := rfl
@[simp] theorem State.phyWrite_log (ra : BitVec 5) (data : Half) : (s.phyWrite ra data).log = s.log := rfl
@[simp] theorem State.phyWrite_mem (ra : BitVec 5) (data : Half) : (s.phyWrite ra data).mem = s.mem := rfl
@[simp] theorem State.phyWrite_pending (ra : BitVec 5) (data : Half) : (s.phyWrite ra data).pending = s.pending := rfl
@[simp] theorem State.phyWrite_answer (ra : BitVec 5) (data : Half) : (s.phyWrite ra data).answer = s.answer := rfl
@[simp] theorem State.phyWrite_draws (ra : BitVec 5) (data : Half) : (s.phyWrite ra data).draws = s.draws := rfl
@[simp] theorem State.phyWrite_setLineCalls (ra : BitVec 5) (data : Half) : (s.phyWrite ra data).setLineCalls = s.setLineCalls := rfl

/-! ### `State.raiseFatal` -/

@[simp] theorem State.raiseFatal_params (r : FatalRecord) : (s.raiseFatal r).params = s.params := rfl
@[simp] theorem State.raiseFatal_eir (r : FatalRecord) : (s.raiseFatal r).eir = s.eir := rfl
@[simp] theorem State.raiseFatal_eimr (r : FatalRecord) : (s.raiseFatal r).eimr = s.eimr := rfl
@[simp] theorem State.raiseFatal_ecr (r : FatalRecord) : (s.raiseFatal r).ecr = s.ecr := rfl
@[simp] theorem State.raiseFatal_mmfr (r : FatalRecord) : (s.raiseFatal r).mmfr = s.mmfr := rfl
@[simp] theorem State.raiseFatal_mscr (r : FatalRecord) : (s.raiseFatal r).mscr = s.mscr := rfl
@[simp] theorem State.raiseFatal_rcr (r : FatalRecord) : (s.raiseFatal r).rcr = s.rcr := rfl
@[simp] theorem State.raiseFatal_tcr (r : FatalRecord) : (s.raiseFatal r).tcr = s.tcr := rfl
@[simp] theorem State.raiseFatal_tfwr (r : FatalRecord) : (s.raiseFatal r).tfwr = s.tfwr := rfl
@[simp] theorem State.raiseFatal_rfsr (r : FatalRecord) : (s.raiseFatal r).rfsr = s.rfsr := rfl
@[simp] theorem State.raiseFatal_erdsr (r : FatalRecord) : (s.raiseFatal r).erdsr = s.erdsr := rfl
@[simp] theorem State.raiseFatal_etdsr (r : FatalRecord) : (s.raiseFatal r).etdsr = s.etdsr := rfl
@[simp] theorem State.raiseFatal_emrbr (r : FatalRecord) : (s.raiseFatal r).emrbr = s.emrbr := rfl
@[simp] theorem State.raiseFatal_gask0 (r : FatalRecord) : (s.raiseFatal r).gask0 = s.gask0 := rfl
@[simp] theorem State.raiseFatal_gask1 (r : FatalRecord) : (s.raiseFatal r).gask1 = s.gask1 := rfl
@[simp] theorem State.raiseFatal_mac (r : FatalRecord) : (s.raiseFatal r).mac = s.mac := rfl
@[simp] theorem State.raiseFatal_txCursor (r : FatalRecord) : (s.raiseFatal r).txCursor = s.txCursor := rfl
@[simp] theorem State.raiseFatal_rxCursor (r : FatalRecord) : (s.raiseFatal r).rxCursor = s.rxCursor := rfl
@[simp] theorem State.raiseFatal_rxEnabled (r : FatalRecord) : (s.raiseFatal r).rxEnabled = s.rxEnabled := rfl
@[simp] theorem State.raiseFatal_irqState (r : FatalRecord) : (s.raiseFatal r).irqState = s.irqState := rfl
@[simp] theorem State.raiseFatal_phy (r : FatalRecord) : (s.raiseFatal r).phy = s.phy := rfl
@[simp] theorem State.raiseFatal_linkUp (r : FatalRecord) : (s.raiseFatal r).linkUp = s.linkUp := rfl
@[simp] theorem State.raiseFatal_fatal (r : FatalRecord) : (s.raiseFatal r).fatal = some r := rfl
@[simp] theorem State.raiseFatal_lines (r : FatalRecord) : (s.raiseFatal r).lines = s.lines := rfl
@[simp] theorem State.raiseFatal_sent (r : FatalRecord) : (s.raiseFatal r).sent = s.sent := rfl
@[simp] theorem State.raiseFatal_log (r : FatalRecord) : (s.raiseFatal r).log = s.log := rfl
@[simp] theorem State.raiseFatal_mem (r : FatalRecord) : (s.raiseFatal r).mem = s.mem := rfl
@[simp] theorem State.raiseFatal_pending (r : FatalRecord) : (s.raiseFatal r).pending = s.pending := rfl
@[simp] theorem State.raiseFatal_answer (r : FatalRecord) : (s.raiseFatal r).answer = s.answer := rfl
@[simp] theorem State.raiseFatal_draws (r : FatalRecord) : (s.raiseFatal r).draws = s.draws := rfl
@[simp] theorem State.raiseFatal_setLineCalls (r : FatalRecord) : (s.raiseFatal r).setLineCalls = s.setLineCalls := rfl

/-! ### `State.rxExit` -/

@[simp] theorem State.rxExit_params (a : Word) : (s.rxExit a).params = s.params := rfl
@[simp] theorem State.rxExit_eir (a : Word) : (s.rxExit a).eir = s.eir := rfl
@[simp] theorem State.rxExit_eimr (a : Word) : (s.rxExit a).eimr = s.eimr := rfl
@[simp] theorem State.rxExit_ecr (a : Word) : (s.rxExit a).ecr = s.ecr := rfl
@[simp] theorem State.rxExit_mmfr (a : Word) : (s.rxExit a).mmfr = s.mmfr := rfl
@[simp] theorem State.rxExit_mscr (a : Word) : (s.rxExit a).mscr = s.mscr := rfl
@[simp] theorem State.rxExit_rcr (a : Word) : (s.rxExit a).rcr = s.rcr := rfl
@[simp] theorem State.rxExit_tcr (a : Word) : (s.rxExit a).tcr = s.tcr := rfl
@[simp] theorem State.rxExit_tfwr (a : Word) : (s.rxExit a).tfwr = s.tfwr := rfl
@[simp] theorem State.rxExit_rfsr (a : Word) : (s.rxExit a).rfsr = s.rfsr := rfl
@[simp] theorem State.rxExit_erdsr (a : Word) : (s.rxExit a).erdsr = s.erdsr := rfl
@[simp] theorem State.rxExit_etdsr (a : Word) : (s.rxExit a).etdsr = s.etdsr := rfl
@[simp] theorem State.rxExit_emrbr (a : Word) : (s.rxExit a).emrbr = s.emrbr := rfl
@[simp] theorem State.rxExit_gask0 (a : Word) : (s.rxExit a).gask0 = s.gask0 := rfl
@[simp] theorem State.rxExit_gask1 (a : Word) : (s.rxExit a).gask1 = s.gask1 := rfl
@[simp] theorem State.rxExit_mac (a : Word) : (s.rxExit a).mac = s.mac := rfl
@[simp] theorem State.rxExit_txCursor (a : Word) : (s.rxExit a).txCursor = s.txCursor := rfl
@[simp] theorem State.rxExit_rxCursor (a : Word) : (s.rxExit a).rxCursor = a := rfl
@[simp] theorem State.rxExit_rxEnabled (a : Word) : (s.rxExit a).rxEnabled = (s.decodeDesc a).owned := rfl
@[simp] theorem State.rxExit_irqState (a : Word) : (s.rxExit a).irqState = s.irqState := rfl
@[simp] theorem State.rxExit_phy (a : Word) : (s.rxExit a).phy = s.phy := rfl
@[simp] theorem State.rxExit_linkUp (a : Word) : (s.rxExit a).linkUp = s.linkUp := rfl
@[simp] theorem State.rxExit_fatal (a : Word) : (s.rxExit a).fatal = s.fatal := rfl
@[simp] theorem State.rxExit_lines (a : Word) : (s.rxExit a).lines = s.lines := rfl
@[simp] theorem State.rxExit_sent (a : Word) : (s.rxExit a).sent = s.sent := rfl
@[simp] theorem State.rxExit_log (a : Word) : (s.rxExit a).log = s.log := rfl
@[simp] theorem State.rxExit_mem (a : Word) : (s.rxExit a).mem = s.mem := rfl
@[simp] theorem State.rxExit_pending (a : Word) : (s.rxExit a).pending = s.pending := rfl
@[simp] theorem State.rxExit_answer (a : Word) : (s.rxExit a).answer = s.answer := rfl
@[simp] theorem State.rxExit_draws (a : Word) : (s.rxExit a).draws = s.draws := rfl
@[simp] theorem State.rxExit_setLineCalls (a : Word) : (s.rxExit a).setLineCalls = s.setLineCalls := rfl

/-! ### `State.withRequest` -/

@[simp] theorem State.withRequest_params (r : Request) : (s.withRequest r).params = s.params := rfl
@[simp] theorem State.withRequest_eir (r : Request) : (s.withRequest r).eir = s.eir := rfl
@[simp] theorem State.withRequest_eimr (r : Request) : (s.withRequest r).eimr = s.eimr := rfl
@[simp] theorem State.withRequest_ecr (r : Request) : (s.withRequest r).ecr = s.ecr := rfl
@[simp] theorem State.withRequest_mmfr (r : Request) : (s.withRequest r).mmfr = s.mmfr := rfl
@[simp] theorem State.withRequest_mscr (r : Request) : (s.withRequest r).mscr = s.mscr := rfl
@[simp] theorem State.withRequest_rcr (r : Request) : (s.withRequest r).rcr = s.rcr := rfl
@[simp] theorem State.withRequest_tcr (r : Request) : (s.withRequest r).tcr = s.tcr := rfl
@[simp] theorem State.withRequest_tfwr (r : Request) : (s.withRequest r).tfwr = s.tfwr := rfl
@[simp] theorem State.withRequest_rfsr (r : Request) : (s.withRequest r).rfsr = s.rfsr := rfl
@[simp] theorem State.withRequest_erdsr (r : Request) : (s.withRequest r).erdsr = s.erdsr := rfl
@[simp] theorem State.withRequest_etdsr (r : Request) : (s.withRequest r).etdsr = s.etdsr := rfl
@[simp] theorem State.withRequest_emrbr (r : Request) : (s.withRequest r).emrbr = s.emrbr := rfl
@[simp] theorem State.withRequest_gask0 (r : Request) : (s.withRequest r).gask0 = s.gask0 := rfl
@[simp] theorem State.withRequest_gask1 (r : Request) : (s.withRequest r).gask1 = s.gask1 := rfl
@[simp] theorem State.withRequest_mac (r : Request) : (s.withRequest r).mac = s.mac := rfl
@[simp] theorem State.withRequest_txCursor (r : Request) : (s.withRequest r).txCursor = s.txCursor := rfl
@[simp] theorem State.withRequest_rxCursor (r : Request) : (s.withRequest r).rxCursor = s.rxCursor := rfl
@[simp] theorem State.withRequest_rxEnabled (r : Request) : (s.withRequest r).rxEnabled = s.rxEnabled := rfl
@[simp] theorem State.withRequest_irqState (r : Request) : (s.withRequest r).irqState = s.irqState := rfl
@[simp] theorem State.withRequest_phy (r : Request) : (s.withRequest r).phy = s.phy := rfl
@[simp] theorem State.withRequest_linkUp (r : Request) : (s.withRequest r).linkUp = s.linkUp := rfl
@[simp] theorem State.withRequest_fatal (r : Request) : (s.withRequest r).fatal = s.fatal := rfl
@[simp] theorem State.withRequest_lines (r : Request) : (s.withRequest r).lines = s.lines := rfl
@[simp] theorem State.withRequest_sent (r : Request) : (s.withRequest r).sent = s.sent := rfl
@[simp] theorem State.withRequest_log (r : Request) : (s.withRequest r).log = s.log := rfl
@[simp] theorem State.withRequest_mem (r : Request) : (s.withRequest r).mem = s.mem := rfl
@[simp] theorem State.withRequest_pending (r : Request) : (s.withRequest r).pending = .op r :: s.pending := rfl
@[simp] theorem State.withRequest_answer (r : Request) : (s.withRequest r).answer = s.answer := rfl
@[simp] theorem State.withRequest_draws (r : Request) : (s.withRequest r).draws = s.draws := rfl
@[simp] theorem State.withRequest_setLineCalls (r : Request) : (s.withRequest r).setLineCalls = s.setLineCalls := rfl

end Sys2Proof.Machine
end

