-- ==== Sys2Proof/Laws/Memory.lean ====
section
/-! SUPPORT. Guest memory: a byte written is read back, every other byte is left alone, every operation
keeps the canonical form, and memories in canonical form that read the same are equal. -/

namespace Sys2Proof.Machine

/-! ### Addresses -/

/-- The address after `a`, and `i` further. -/
theorem addr_succ (a : Word) (i : Nat) :
    a + 1 + BitVec.ofNat 32 i = a + BitVec.ofNat 32 (i + 1) := by
  apply BitVec.eq_of_toNat_eq
  simp only [BitVec.toNat_add, BitVec.toNat_ofNat, BitVec.ofNat_eq_ofNat]
  omega

theorem sub_succ (x a : Word) : x - (a + 1) = (x - a) - 1 := by
  apply BitVec.eq_of_toNat_eq
  simp only [BitVec.toNat_sub, BitVec.toNat_add, BitVec.ofNat_eq_ofNat, BitVec.toNat_ofNat]
  omega

/-! ### One byte -/

theorem Memory.wfFrom_mono {lo lo' : Nat} (h : lo' ≤ lo) {m : Memory}
    (hm : Memory.wfFrom lo m = true) : Memory.wfFrom lo' m = true := by
  cases m with
  | nil => rfl
  | cons c m =>
    simp only [Memory.wfFrom, Bool.and_eq_true, decide_eq_true_eq] at hm ⊢
    exact ⟨⟨⟨by omega, hm.1.1.2⟩, hm.1.2⟩, hm.2⟩

/-- An address below every listed one reads as blank. -/
theorem Memory.get_of_lt {lo k : Nat} {m : Memory} (hm : Memory.wfFrom lo m = true) (hk : k < lo) :
    Memory.get m k = Memory.blank := by
  induction m generalizing lo with
  | nil => rfl
  | cons c m ih =>
    simp only [Memory.wfFrom, Bool.and_eq_true, decide_eq_true_eq] at hm
    have hne : k ≠ c.1 := by omega
    simp only [Memory.get, if_neg hne]
    exact ih hm.2 (by omega)

/-- A write leaves every other byte alone. -/
theorem Memory.get_set_other (m : Memory) {k j : Nat} (b : Byte) (h : j ≠ k) :
    Memory.get (m.set k b) j = Memory.get m j := by
  induction m with
  | nil =>
    by_cases hb : b = Memory.blank
    · simp [Memory.set, hb]
    · simp [Memory.set, hb, Memory.get, h]
  | cons c m ih =>
    by_cases h1 : k < c.1
    · by_cases hb : b = Memory.blank
      · simp [Memory.set, h1, hb]
      · simp [Memory.set, h1, hb, Memory.get, h]
    · by_cases h2 : k = c.1
      · subst h2
        by_cases hb : b = Memory.blank
        · simp [Memory.set, hb, Memory.get, h]
        · simp [Memory.set, hb, Memory.get, h]
      · by_cases hj : j = c.1
        · subst hj; simp [Memory.set, h1, h2, Memory.get]
        · simp [Memory.set, h1, h2, Memory.get, hj, ih]

theorem Memory.get_set_same_from {lo : Nat} {m : Memory} (hm : Memory.wfFrom lo m = true) (k : Nat)
    (b : Byte) : Memory.get (m.set k b) k = b := by
  induction m generalizing lo with
  | nil =>
    by_cases hb : b = Memory.blank
    · simp [Memory.set, hb, Memory.get]
    · simp [Memory.set, hb, Memory.get]
  | cons c m ih =>
    have hm' := hm
    simp only [Memory.wfFrom, Bool.and_eq_true, decide_eq_true_eq] at hm
    by_cases h1 : k < c.1
    · by_cases hb : b = Memory.blank
      · have hne : k ≠ c.1 := by omega
        rw [Memory.set, if_pos h1, if_pos hb, Memory.get, if_neg hne, hb]
        exact Memory.get_of_lt hm.2 (by omega)
      · simp [Memory.set, h1, hb, Memory.get]
    · by_cases h2 : k = c.1
      · by_cases hb : b = Memory.blank
        · rw [Memory.set, if_neg h1, if_pos h2, if_pos hb, hb]
          exact Memory.get_of_lt hm.2 (by omega)
        · simp [Memory.set, h2, hb, Memory.get]
      · simp only [Memory.set, if_neg h1, if_neg h2, Memory.get]
        exact ih hm.2

/-- A byte written is read back, in a memory in canonical form. -/
theorem Memory.get_set_same {m : Memory} (hm : m.wf = true) (k : Nat) (b : Byte) :
    Memory.get (m.set k b) k = b :=
  Memory.get_set_same_from hm k b

theorem Memory.wfFrom_set {lo : Nat} {m : Memory} (hm : Memory.wfFrom lo m = true) {k : Nat}
    (hlo : lo ≤ k) (hk : k < 4294967296) (b : Byte) : Memory.wfFrom lo (m.set k b) = true := by
  induction m generalizing lo with
  | nil =>
    by_cases hb : b = Memory.blank
    · simp [Memory.set, hb, Memory.wfFrom]
    · simp [Memory.set, hb, Memory.wfFrom, hlo, hk]
  | cons c m ih =>
    have hm' := hm
    simp only [Memory.wfFrom, Bool.and_eq_true, decide_eq_true_eq] at hm
    obtain ⟨⟨⟨hc, hc'⟩, hcb⟩, hrest⟩ := hm
    by_cases h1 : k < c.1
    · by_cases hb : b = Memory.blank
      · simpa [Memory.set, h1, hb] using hm'
      · have h2 : k + 1 ≤ c.1 := by omega
        simp [Memory.set, h1, hb, Memory.wfFrom, hlo, hk, h2, hc', hrest]
        simpa using hcb
    · by_cases h2 : k = c.1
      · subst h2
        by_cases hb : b = Memory.blank
        · have := Memory.wfFrom_mono (lo' := lo) (by omega) hrest
          simpa [Memory.set, hb] using this
        · simp [Memory.set, hb, Memory.wfFrom, hlo, hk, hrest]
      · have h3 : c.1 + 1 ≤ k := by omega
        simp only [Memory.set, if_neg h1, if_neg h2, Memory.wfFrom, Bool.and_eq_true,
          decide_eq_true_eq]
        exact ⟨⟨⟨hc, hc'⟩, hcb⟩, ih hrest h3⟩

/-- A write keeps the canonical form. -/
theorem Memory.wf_set {m : Memory} (hm : m.wf = true) {k : Nat} (hk : k < 4294967296) (b : Byte) :
    (m.set k b).wf = true :=
  Memory.wfFrom_set hm (Nat.zero_le k) hk b

/-! ### Spans of bytes -/

/-- Every memory operation keeps the canonical form: `setBytes` is the one all of them are made of. -/
theorem Memory.wf_setBytes {m : Memory} (hm : m.wf = true) (a : Word) (bs : List Byte) :
    (m.setBytes a bs).wf = true := by
  induction bs generalizing m a with
  | nil => exact hm
  | cons b bs ih => exact ih (Memory.wf_set hm a.isLt b) (a + 1)

theorem InSpan.succ {a x : Word} {n : Nat} (h : InSpan (a + 1) n x) (hx : x ≠ a)  :
    InSpan a (n + 1) x := by
  unfold InSpan at *
  rw [sub_succ] at h
  have hne : (x - a).toNat ≠ 0 := fun h0 =>
    hx (by simpa using BitVec.sub_eq_iff_eq_add.mp (BitVec.eq_of_toNat_eq (y := 0) (by simpa using h0)))
  rw [BitVec.toNat_sub] at h
  simp only [BitVec.ofNat_eq_ofNat, BitVec.toNat_ofNat] at h
  have := (x - a).isLt
  omega

theorem InSpan.self (a : Word) {n : Nat} (hn : 0 < n) : InSpan a n a := by
  simp [InSpan, hn]

/-- A span written leaves every address outside it alone. -/
theorem Memory.get_setBytes_outside (m : Memory) (a : Word) (bs : List Byte) {x : Word}
    (h : ¬ InSpan a bs.length x) : Memory.get (m.setBytes a bs) x.toNat = Memory.get m x.toNat := by
  induction bs generalizing m a with
  | nil => rfl
  | cons b bs ih =>
    have hxa : x ≠ a := by
      rintro rfl; exact h (InSpan.self _ (by simp))
    have h' : ¬ InSpan (a + 1) bs.length x := fun hs => h (by simpa using hs.succ hxa)
    rw [Memory.setBytes, ih _ _ h', Memory.get_set_other]
    exact fun he => hxa (BitVec.eq_of_toNat_eq he)

theorem notInSpan_of_wrap (a : Word) {n : Nat} (hn : n < 4294967296) : ¬ InSpan (a + 1) n a := by
  unfold InSpan
  rw [sub_succ]
  simp only [BitVec.sub_self, BitVec.toNat_sub, BitVec.ofNat_eq_ofNat, BitVec.toNat_ofNat]
  omega

/-- A span written is read back byte by byte, where it does not wrap onto itself. -/
theorem Memory.get_setBytes_inside {m : Memory} (hm : m.wf = true) (a : Word) (bs : List Byte)
    (hn : bs.length ≤ 4294967296) {i : Nat} (hi : i < bs.length) :
    Memory.get (m.setBytes a bs) (a + BitVec.ofNat 32 i).toNat = bs[i] := by
  induction bs generalizing m a i with
  | nil => simp at hi
  | cons b bs ih =>
    have hlen : bs.length < 4294967296 := by simpa using hn
    cases i with
    | zero =>
      have h0 : a + BitVec.ofNat 32 0 = a := by simp
      rw [h0, Memory.setBytes, Memory.get_setBytes_outside _ _ _ (notInSpan_of_wrap a hlen)]
      simpa using Memory.get_set_same hm a.toNat b
    | succ i =>
      rw [← addr_succ, Memory.setBytes]
      simpa using ih (Memory.wf_set hm a.isLt b) (a + 1) (by omega) (by simpa using hi)

@[simp] theorem Memory.setBytes_nil (m : Memory) (a : Word) : m.setBytes a [] = m := rfl

/-- Two writes one after the other are one write of the joined bytes. -/
theorem Memory.setBytes_append (m : Memory) (a : Word) (bs cs : List Byte) :
    m.setBytes a (bs ++ cs) = (m.setBytes a bs).setBytes (a + BitVec.ofNat 32 bs.length) cs := by
  induction bs generalizing m a with
  | nil => simp [Memory.setBytes]
  | cons b bs ih =>
    rw [List.cons_append, Memory.setBytes, ih, addr_succ, Memory.setBytes, List.length_cons]

/-! ### The same for states -/

theorem State.readByte_writeBytes_outside (s : State) (a : Word) (bs : List Byte) {x : Word}
    (h : ¬ InSpan a bs.length x) : (s.writeBytes a bs).readByte x = s.readByte x :=
  Memory.get_setBytes_outside s.mem a bs h

theorem State.readByte_writeBytes_inside (s : State) (hm : s.mem.wf = true) (a : Word)
    (bs : List Byte) (hn : bs.length ≤ 4294967296) {i : Nat} (hi : i < bs.length) :
    (s.writeBytes a bs).readByte (a + BitVec.ofNat 32 i) = bs[i] :=
  Memory.get_setBytes_inside hm a bs hn hi

@[simp] theorem State.length_readBytes (s : State) (a : Word) (n : Nat) :
    (s.readBytes a n).length = n := by
  induction n generalizing a with
  | zero => rfl
  | succ n ih => simp [State.readBytes, ih]

/-- A span read depends only on the bytes of the span. -/
theorem State.readBytes_congr {s t : State} (a : Word) (n : Nat)
    (h : ∀ i < n, t.readByte (a + BitVec.ofNat 32 i) = s.readByte (a + BitVec.ofNat 32 i)) :
    t.readBytes a n = s.readBytes a n := by
  induction n generalizing a with
  | zero => rfl
  | succ n ih =>
    have h0 := h 0 (by omega)
    simp only [BitVec.add_zero] at h0
    have hs : ∀ i < n, t.readByte (a + 1 + BitVec.ofNat 32 i) = s.readByte (a + 1 + BitVec.ofNat 32 i) := by
      intro i hi
      rw [addr_succ]; exact h (i + 1) (by omega)
    rw [State.readBytes, State.readBytes, h0, ih (a + 1) hs]

/-- The bytes a span read gives. -/
theorem State.getElem_readBytes (s : State) (a : Word) {n i : Nat} (hi : i < n) :
    (s.readBytes a n)[i]'(by simpa using hi) = s.readByte (a + BitVec.ofNat 32 i) := by
  induction n generalizing a i with
  | zero => omega
  | succ n ih =>
    cases i with
    | zero => simp [State.readBytes]
    | succ i =>
      simp only [State.readBytes, List.getElem_cons_succ]
      rw [ih (a + 1) (by omega), addr_succ]

end Sys2Proof.Machine
end

