-- ==== Sys2Proof/Laws/Operations.lean ====
section
/-! SUPPORT. One lemma for each shared operation that says all it can do: how an operation ends, the
interrupt mapper, the bus accesses, the PHY and the dispatcher, the resets, and one visit of a slot. -/

namespace Sys2Proof.Machine

/-! ### How an operation ends -/

/-- An operation answers a next state exactly in a live session, and then that state. -/
theorem State.perform_eq_next {s t u : State} : s.perform t = .next u ↔ s.fatal = none ∧ u = t := by
  unfold State.perform
  cases hf : s.fatal <;> simp [eq_comm]

theorem State.perform_live {s : State} (h : s.fatal = none) (t : State) : s.perform t = .next t := by
  simp [State.perform, h]

theorem State.perform_ended {s : State} {r : FatalRecord} (h : s.fatal = some r) (t : State) :
    s.perform t = .fault (.sessionEnded r) := by
  simp [State.perform, h]

/-! ### The interrupt mapper -/

/-- What the loop over the lines does: only the levels and the record of calls change. -/
theorem State.driveLines_eq (act chg : Word) (is : List (Fin 13)) (s : State) :
    State.driveLines act chg is s =
      { s with lines := (State.driveLines act chg is s).lines
               setLineCalls := s.setLineCalls ++
                 (is.filter (fun i => lineBit chg i)).map (fun i => (i, lineBit act i)) } := by
  induction is generalizing s with
  | nil => simp [State.driveLines]
  | cons i is ih =>
    by_cases h : lineBit chg i = true
    · rw [State.driveLines, if_pos h, ih]
      simp [State.setLine, h]
    · rw [State.driveLines, if_neg h, ih]
      simp [h]

/-- The level of a line after the loop. -/
theorem State.driveLines_lines (act chg : Word) (is : List (Fin 13)) (s : State) (i : Fin 13) :
    (State.driveLines act chg is s).lines[i] =
      if i ∈ is ∧ lineBit chg i = true then lineBit act i else s.lines[i] := by
  induction is generalizing s with
  | nil => simp [State.driveLines]
  | cons j is ih =>
    rw [State.driveLines, ih]
    by_cases hij : i = j
    · subst hij
      by_cases h : lineBit chg i = true <;> simp [h, State.setLine]
    · have hv : ¬ j.val = i.val := fun h => hij (Fin.ext h.symm)
      by_cases h : lineBit chg j = true <;>
        simp [h, State.setLine, hij, hv]

theorem mem_lineOrder (i : Fin 13) : i ∈ lineOrder := by
  revert i; decide

/-- All `UPDATE()` does (60_exceptions.md R279). -/
theorem State.update_spec (s : State) :
    s.update = { s with irqState := s.update.irqState, lines := s.update.lines
                        setLineCalls := s.update.setLineCalls } ∧ AfterUpdate s s.update := by
  have h := State.driveLines_eq s.active (s.active ^^^ s.irqState) lineOrder s
  have hu : s.update = { s with irqState := s.update.irqState, lines := s.update.lines
                                setLineCalls := s.update.setLineCalls } := by
    unfold State.update
    rw [h]
  refine ⟨hu, ?_⟩
  have hEir : s.update.eir = s.eir := by rw [hu]
  have hEimr : s.update.eimr = s.eimr := by rw [hu]
  refine ⟨by rw [hEir, hEimr]; rfl, fun i => ?_, ?_⟩
  · have hl := State.driveLines_lines s.active (s.active ^^^ s.irqState) lineOrder s i
    rw [hEir, hEimr]
    simp only [mem_lineOrder, true_and] at hl
    exact hl
  · rw [hEir, hEimr]
    show (State.driveLines s.active (s.active ^^^ s.irqState) lineOrder s).setLineCalls = _
    rw [h]; rfl

/-- A register write completes in a live session, whatever it does to the register file, provided it
left the interrupt side alone (40_register_file.md R101). -/
theorem State.busWrite_spec {s t : State} (h : s.fatal = none) (hi : t.irqState = s.irqState)
    (hl : t.lines = s.lines) (hc : t.setLineCalls = s.setLineCalls) :
    ∃ u, s.busWrite t = .next u ∧ AfterUpdate s u ∧
      u = { t with answer := .none, irqState := u.irqState, lines := u.lines
                   setLineCalls := u.setLineCalls } := by
  refine ⟨(t.reply .none).update, State.perform_live h _, ?_, ?_⟩
  · have hs := (State.update_spec (t.reply .none)).2
    unfold AfterUpdate at hs ⊢
    simpa [hi, hl, hc] using hs
  · exact (State.update_spec (t.reply .none)).1

/-- A register read completes in a live session and changes nothing but the answer
(40_register_file.md R100). -/
theorem State.busRead_live {s : State} (h : s.fatal = none) (v : Word) :
    s.busRead v = .next { s with answer := .word v } :=
  State.perform_live h _

/-! ### The engines change only what is theirs -/

/-- One visit of a transmit slot changes guest memory, EIR and `sent`, and nothing else. -/
theorem State.txSlot_frame (s : State) (addr : Word) (d : Desc) (acc : List Byte) :
    (s.txSlot addr d acc).2 = { s with mem := (s.txSlot addr d acc).2.mem
                                       eir := (s.txSlot addr d acc).2.eir
                                       sent := (s.txSlot addr d acc).2.sent } := by
  unfold State.txSlot State.txGather State.txEndOfFrame
  split <;> split <;> rfl

/-- A transmit pass changes guest memory, EIR, `sent` and the cursor it answers, and nothing else. -/
theorem State.txLoop_frame (n : Nat) (addr : Word) (acc : List Byte) (s : State) :
    (State.txLoop n addr acc s).2 = { s with mem := (State.txLoop n addr acc s).2.mem
                                             eir := (State.txLoop n addr acc s).2.eir
                                             sent := (State.txLoop n addr acc s).2.sent } := by
  induction n generalizing addr acc s with
  | zero => rfl
  | succ n ih =>
    by_cases ho : (s.decodeDesc addr).owned = true
    · rw [State.txLoop, if_pos ho]
      simp only []
      rw [ih]
      rw [State.txSlot_frame]
    · rw [State.txLoop, if_neg ho]

/-- One visit of a receive slot changes guest memory and EIR, and nothing else. -/
theorem State.rxSlot_frame (s : State) (addr : Word) (d : Desc) (rest : List Byte) (err : Half) :
    (s.rxSlot addr d rest err).2 = { s with mem := (s.rxSlot addr d rest err).2.mem
                                            eir := (s.rxSlot addr d rest err).2.eir } := rfl

/-- A receive pass changes guest memory, EIR, the log and the cursor it answers, and nothing else. -/
theorem State.rxLoop_frame (n : Nat) (addr : Word) (rest : List Byte) (err : Half) (s : State) :
    (State.rxLoop n addr rest err s).2 = { s with mem := (State.rxLoop n addr rest err s).2.mem
                                                  eir := (State.rxLoop n addr rest err s).2.eir
                                                  log := (State.rxLoop n addr rest err s).2.log } := by
  induction n generalizing addr rest s with
  | zero => rfl
  | succ n ih =>
    by_cases he : rest.isEmpty = true
    · rw [State.rxLoop, if_pos he]
    · by_cases ho : (s.decodeDesc addr).owned = true
      · rw [State.rxLoop, if_neg he, if_pos ho]
        simp only []
        rw [ih]
        rw [State.rxSlot_frame]
      · rw [State.rxLoop, if_neg he, if_neg ho]; rfl

/-- A dispatch changes MMFR, the PHY registers, EIR and the log, and nothing else. -/
theorem State.mdioDispatch_frame (s : State) :
    s.mdioDispatch = { s with mmfr := s.mdioDispatch.mmfr, phy := s.mdioDispatch.phy
                              eir := s.mdioDispatch.eir, log := s.mdioDispatch.log } := by
  unfold State.mdioDispatch State.dispatchWrite State.dispatchRead State.dispatchInvalid
  split
  · split <;> rfl
  · rfl
  · rfl

/-- A software reset leaves these as they are (70_reset_and_hazards.md R302). -/
theorem State.softReset_frame (s : State) :
    s.softReset.params = s.params ∧ s.softReset.mac = s.mac ∧ s.softReset.phy = s.phy ∧
    s.softReset.linkUp = s.linkUp ∧ s.softReset.irqState = s.irqState ∧
    s.softReset.lines = s.lines ∧ s.softReset.setLineCalls = s.setLineCalls ∧
    s.softReset.sent = s.sent ∧ s.softReset.log = s.log ∧ s.softReset.mem = s.mem ∧
    s.softReset.fatal = s.fatal ∧ s.softReset.pending = s.pending ∧
    s.softReset.answer = s.answer ∧ s.softReset.draws = s.draws := by
  unfold State.softReset
  split <;> exact ⟨rfl, rfl, rfl, rfl, rfl, rfl, rfl, rfl, rfl, rfl, rfl, rfl, rfl, rfl⟩

/-! ### The memory every operation leaves is in canonical form -/

theorem State.wf_writeBytes {s : State} (hm : s.mem.wf = true) (a : Word) (bs : List Byte) :
    (s.writeBytes a bs).mem.wf = true :=
  Memory.wf_setBytes hm a bs

theorem State.wf_encodeDesc {s : State} (hm : s.mem.wf = true) (d : Desc) (a : Word) :
    (s.encodeDesc d a).mem.wf = true :=
  Memory.wf_setBytes hm a _

theorem State.wf_txSlot {s : State} (hm : s.mem.wf = true) (addr : Word) (d : Desc)
    (acc : List Byte) : (s.txSlot addr d acc).2.mem.wf = true := by
  unfold State.txSlot State.txGather State.txEndOfFrame
  split <;> split <;> exact Memory.wf_setBytes hm _ _

theorem State.wf_txLoop (n : Nat) (addr : Word) (acc : List Byte) {s : State}
    (hm : s.mem.wf = true) : (State.txLoop n addr acc s).2.mem.wf = true := by
  induction n generalizing addr acc s with
  | zero => exact hm
  | succ n ih =>
    by_cases ho : (s.decodeDesc addr).owned = true
    · rw [State.txLoop, if_pos ho]
      exact ih _ _ (State.wf_txSlot hm _ _ _)
    · rw [State.txLoop, if_neg ho]; exact hm

theorem State.wf_rxSlot {s : State} (hm : s.mem.wf = true) (addr : Word) (d : Desc)
    (rest : List Byte) (err : Half) : (s.rxSlot addr d rest err).2.mem.wf = true :=
  Memory.wf_setBytes (Memory.wf_setBytes hm _ _) _ _

theorem State.wf_rxLoop (n : Nat) (addr : Word) (rest : List Byte) (err : Half) {s : State}
    (hm : s.mem.wf = true) : (State.rxLoop n addr rest err s).2.mem.wf = true := by
  induction n generalizing addr rest s with
  | zero => exact hm
  | succ n ih =>
    by_cases he : rest.isEmpty = true
    · rw [State.rxLoop, if_pos he]; exact hm
    · by_cases ho : (s.decodeDesc addr).owned = true
      · rw [State.rxLoop, if_neg he, if_pos ho]
        exact ih _ _ (State.wf_rxSlot hm _ _ _ _)
      · rw [State.rxLoop, if_neg he, if_neg ho]; exact hm

/-! ### The codec's bytes -/

@[simp] theorem length_enc32 (e : Endian) (w : Word) : (enc32 e w).length = 4 := by
  cases e <;> rfl

/-- An `ENCODE` stores 8 bytes (20_memory.md R72). -/
theorem length_slotBytes (e : Endian) (d : Desc) :
    (enc32 e (d.flags ++ d.length) ++ enc32 e d.buffer).length = 8 := by simp

/-- `ENCODE` leaves every byte outside the slot alone. -/
theorem State.readByte_encodeDesc_outside (s : State) (d : Desc) (a : Word) {x : Word}
    (h : ¬ InSpan a 8 x) : (s.encodeDesc d a).readByte x = s.readByte x :=
  State.readByte_writeBytes_outside s a _ (by rwa [length_slotBytes])

end Sys2Proof.Machine
end

