-- ==== Sys2Proof/Laws/Safety.lean ====
section
/-! SUPPORT. What the terms of the statements say in the cases the spec names: a frame ended by its L,
a frame left open, and what R49(a) says of the cursors under each ring mask. -/

namespace Sys2Proof.Machine

/-- Slots without L gather into the open frame: no frame is ended (42_transmit.md R189). -/
theorem gathered_without_last (acc : List Byte) (bss : List (List Byte)) :
    gathered acc (bss.map fun bs => (false, bs)) = ([], acc ++ bss.flatten) := by
  induction bss generalizing acc with
  | nil => simp [gathered]
  | cons bs bss ih => simp [gathered, ih]

/-- Slots with L on the last only gather into one frame, their concatenation (42_transmit.md
R192(c)). -/
theorem gathered_with_one_last (acc : List Byte) (bss : List (List Byte)) (bs : List Byte) :
    gathered acc ((bss.map fun b => (false, b)) ++ [(true, bs)]) =
      ([acc ++ bss.flatten ++ bs], []) := by
  induction bss generalizing acc with
  | nil => simp [gathered]
  | cons b bss ih => simp [gathered, ih]

/-- Where only low bits are clear in the mask, its complement is those low bits. -/
theorem not_and_low_of_or_low {m : Word} (h : m ||| 0x00000007 = 0xFFFFFFFF) :
    ~~~m &&& 0x00000007 = ~~~m := by
  have h' : ~~~m &&& ~~~(0x00000007 : Word) = 0 := by
    rw [← BitVec.not_or, h]; rfl
  calc ~~~m &&& 0x00000007
      = (~~~m &&& 0x00000007) ||| (~~~m &&& ~~~(0x00000007 : Word)) := by rw [h']; simp
    _ = ~~~m &&& (0x00000007 ||| ~~~(0x00000007 : Word)) := by rw [BitVec.and_or_distrib_left]
    _ = ~~~m := by
      rw [show (0x00000007 : Word) ||| ~~~0x00000007 = BitVec.allOnes 32 by decide,
        BitVec.and_allOnes]

/-- R49(a) to the letter, where the mask has no clear bit above bit 2, as the default has not: the
cursors hold no bit that is clear in it. -/
theorem Inv.cursor_on_mask {s : State} (h : Inv s)
    (hm : s.params.ringBaseMask ||| 0x00000007 = 0xFFFFFFFF) :
    s.txCursor &&& ~~~s.params.ringBaseMask = 0 ∧ s.rxCursor &&& ~~~s.params.ringBaseMask = 0 := by
  have hr := h.cursors.1
  have ht := h.cursors.2
  rw [BitVec.and_assoc, not_and_low_of_or_low hm] at hr ht
  exact ⟨ht, hr⟩

/-- The low three bits, as a number. -/
theorem toNat_and_low (c : Word) : (c &&& 0x00000007).toNat = c.toNat % 8 := by
  rw [BitVec.toNat_and]
  exact Nat.and_two_pow_sub_one_eq_mod c.toNat 3

/-- Adding a multiple of 8 leaves the low three bits alone. -/
theorem add_eights_and_low (c k : Word) : c + 8 * k &&& 0x00000007 = c &&& 0x00000007 := by
  apply BitVec.eq_of_toNat_eq
  rw [toNat_and_low, toNat_and_low, BitVec.toNat_add, BitVec.toNat_mul]
  show (c.toNat + 8 * k.toNat % 4294967296) % 4294967296 % 8 = c.toNat % 8
  omega

/-- A word is its low three bits and a multiple of 8. -/
theorem exists_low_add_eights (c : Word) : ∃ k : Word, c = (c &&& 0x00000007) + 8 * k := by
  refine ⟨c >>> 3, BitVec.eq_of_toNat_eq ?_⟩
  rw [BitVec.toNat_add, toNat_and_low, BitVec.toNat_mul, BitVec.toNat_ushiftRight,
    Nat.shiftRight_eq_div_pow]
  show c.toNat = (c.toNat % 8 + 8 * (c.toNat / 8) % 4294967296) % 4294967296
  have := c.isLt
  omega

/-- Where a set of bits avoids a mask's clear bits, the mask keeps it. -/
theorem and_eq_self_of_and_not {c m : Word} (h : c &&& ~~~m = 0) : c &&& m = c := by
  calc c &&& m = (c &&& m) ||| (c &&& ~~~m) := by rw [h]; simp
    _ = c &&& (m ||| ~~~m) := by rw [BitVec.and_or_distrib_left]
    _ = c := by rw [BitVec.or_not_self, BitVec.and_allOnes]

/-- R49(a) gives its reason: "a cursor is only ever a masked base value or a previous cursor plus 8
modulo 2^32". For every mask, the values this reason admits, a masked value and steps of 8 from it,
are exactly those that `Inv.cursors` admits. -/
theorem cursor_is_masked_base_plus_eights (c m : Word) :
    c &&& ~~~m &&& 0x00000007 = 0 ↔ ∃ v k : Word, c = (v &&& m) + 8 * k := by
  constructor
  · intro h
    rw [BitVec.and_assoc, BitVec.and_comm (~~~m), ← BitVec.and_assoc] at h
    obtain ⟨k, hk⟩ := exists_low_add_eights c
    exact ⟨c &&& 0x00000007, k, by rw [and_eq_self_of_and_not h]; exact hk⟩
  · rintro ⟨v, k, rfl⟩
    rw [BitVec.and_assoc, BitVec.and_comm (~~~m), ← BitVec.and_assoc, add_eights_and_low,
      BitVec.and_assoc, BitVec.and_assoc, BitVec.and_comm 0x00000007, ← BitVec.and_assoc m,
      BitVec.and_not_self]
    simp

/-- The advance of R177 keeps the letter of R49(a), that a cursor holds no bit clear in the mask, for
exactly the masks with no clear bit above bit 2: for every other mask the two rules contradict each
other (log 17). -/
theorem advance_keeps_mask_iff (m : Word) :
    (∀ c : Word, c &&& ~~~m = 0 → (c + 8) &&& ~~~m = 0) ↔ m ||| 0x00000007 = 0xFFFFFFFF := by
  constructor
  · intro h
    have eights : ∀ n : Nat, BitVec.ofNat 32 (8 * n) &&& ~~~m = 0 := by
      intro n
      induction n with
      | zero => simp
      | succ n ih =>
        rw [Nat.mul_succ, BitVec.ofNat_add]
        exact h _ ih
    have top : ~~~(0x00000007 : Word) &&& ~~~m = 0 := eights 536870911
    rw [← BitVec.not_or, BitVec.or_comm] at top
    exact BitVec.not_inj.mp (top.trans (by decide))
  · intro hm c hc
    have low := not_and_low_of_or_low hm
    rw [← low, BitVec.and_comm (~~~m), ← BitVec.and_assoc,
      show c + 8 = c + 8 * 1 from rfl, add_eights_and_low, BitVec.and_assoc,
      BitVec.and_comm 0x00000007, ← BitVec.and_assoc, hc]
    simp

end Sys2Proof.Machine
end

