-- ==== Sys2Proof/Tests/Slice0.lean ====
section
/-! SUPPORT. The model's own tests: ill-formed terms, words of the encodings, single steps on the
vectors of 95_test_vectors.md, and for every statement with hypotheses a state that meets them. -/

namespace Sys2Proof.Tests

open Sys2Proof Sys2Proof.Machine

/-! ### Well-formedness (00_scope.md R8) -/

/-- The parameters of S0 with a limit on the slots of a pass. -/
def limited (n : Nat) : Params := { Config.defaultParams with maxDescPerPass := some n }

theorem test_construct_with_no_slots_is_ill_formed :
    (Instr.construct (limited 0)).wf = false ∧ (Instr.construct (limited 1)).wf = true := by decide

theorem test_ill_formed_construct_is_rejected :
    decode (.host 0 (.params (limited 0))) = .rejected (.badEvent 0) := by decide

/-! ### Words written out from the encodings (30_encoding.md R81, R82, R84, R89, R93) -/

/-- The words, with data operands, that decode as they should. -/
def allDecode (l : List (Request × Instr)) : Bool := l.all (fun p => decode p.1 == .instr p.2)

/-- The bus reads of the given commands, with data that a read does not use. -/
def busWords (v : Word) (l : List (BitVec 11 × Instr)) : List (Request × Instr) :=
  l.map (fun p => (.bus 32 p.1 v, p.2))

/-- The PHY accesses of the given commands. -/
def phyWords (data : Half) (l : List (BitVec 6 × Instr)) : List (Request × Instr) :=
  l.map (fun p => (.phy p.1 data, p.2))

theorem test_register_read_words_a : allDecode (busWords 0xA5C3960F [
     (0x004, .eirRd), (0x008, .eimrRd), (0x010, .rdarRd), (0x014, .tdarRd), (0x024, .ecrRd),
     (0x040, .mmfrRd), (0x044, .mscrRd), (0x064, .mibcRd), (0x084, .rcrRd), (0x0C4, .tcrRd),
     (0x0E4, .palrRd), (0x0E8, .paurRd), (0x0EC, .opdRd), (0x118, .iaurRd), (0x11C, .ialrRd),
     (0x120, .gaurRd), (0x124, .galrRd), (0x144, .tfwrRd), (0x14C, .frbrRd), (0x150, .rfsrRd),
     (0x180, .erdsrRd), (0x184, .etdsrRd), (0x188, .emrbrRd), (0x300, .gask0Rd), (0x308, .gask1Rd)]) = true := by decide

theorem test_register_write_words_a : allDecode (busWords 0xA5C3960F [
     (0x404, .eirWr 0xA5C3960F), (0x408, .eimrWr 0xA5C3960F), (0x410, .rdarWr 0xA5C3960F),
     (0x414, .tdarWr 0xA5C3960F), (0x424, .ecrWr 0xA5C3960F), (0x440, .mmfrWr 0xA5C3960F),
     (0x444, .mscrWr 0xA5C3960F), (0x464, .mibcWr 0xA5C3960F), (0x484, .rcrWr 0xA5C3960F),
     (0x4C4, .tcrWr 0xA5C3960F), (0x4E4, .palrWr 0xA5C3960F), (0x4E8, .paurWr 0xA5C3960F),
     (0x4EC, .opdWr 0xA5C3960F), (0x518, .iaurWr 0xA5C3960F), (0x51C, .ialrWr 0xA5C3960F),
     (0x520, .gaurWr 0xA5C3960F), (0x524, .galrWr 0xA5C3960F), (0x544, .tfwrWr 0xA5C3960F),
     (0x54C, .frbrWr 0xA5C3960F), (0x550, .rfsrWr 0xA5C3960F), (0x580, .erdsrWr 0xA5C3960F),
     (0x584, .etdsrWr 0xA5C3960F), (0x588, .emrbrWr 0xA5C3960F), (0x700, .gask0Wr 0xA5C3960F),
     (0x708, .gask1Wr 0xA5C3960F)]) = true := by decide

theorem test_mib_read_words_a : allDecode (busWords 0xA5C3960F [
     (0x200, .mib0Rd), (0x204, .mib1Rd), (0x208, .mib2Rd), (0x20C, .mib3Rd), (0x210, .mib4Rd),
     (0x214, .mib5Rd), (0x218, .mib6Rd), (0x21C, .mib7Rd), (0x220, .mib8Rd), (0x224, .mib9Rd),
     (0x228, .mib10Rd), (0x22C, .mib11Rd), (0x230, .mib12Rd), (0x234, .mib13Rd), (0x238, .mib14Rd),
     (0x23C, .mib15Rd), (0x240, .mib16Rd), (0x244, .mib17Rd), (0x248, .mib18Rd), (0x24C, .mib19Rd),
     (0x250, .mib20Rd), (0x254, .mib21Rd), (0x258, .mib22Rd), (0x25C, .mib23Rd), (0x260, .mib24Rd),
     (0x264, .mib25Rd), (0x268, .mib26Rd), (0x26C, .mib27Rd), (0x270, .mib28Rd), (0x274, .mib29Rd)]) = true := by decide

theorem test_mib_read_words_b : allDecode (busWords 0xA5C3960F [
     (0x278, .mib30Rd), (0x27C, .mib31Rd), (0x280, .mib32Rd), (0x284, .mib33Rd), (0x288, .mib34Rd),
     (0x28C, .mib35Rd), (0x290, .mib36Rd), (0x294, .mib37Rd), (0x298, .mib38Rd), (0x29C, .mib39Rd),
     (0x2A0, .mib40Rd), (0x2A4, .mib41Rd), (0x2A8, .mib42Rd), (0x2AC, .mib43Rd), (0x2B0, .mib44Rd),
     (0x2B4, .mib45Rd), (0x2B8, .mib46Rd), (0x2BC, .mib47Rd), (0x2C0, .mib48Rd), (0x2C4, .mib49Rd),
     (0x2C8, .mib50Rd), (0x2CC, .mib51Rd), (0x2D0, .mib52Rd), (0x2D4, .mib53Rd), (0x2D8, .mib54Rd),
     (0x2DC, .mib55Rd), (0x2E0, .mib56Rd)]) = true := by decide

theorem test_mib_write_words_a : allDecode (busWords 0xA5C3960F [
     (0x600, .mib0Wr 0xA5C3960F), (0x604, .mib1Wr 0xA5C3960F), (0x608, .mib2Wr 0xA5C3960F),
     (0x60C, .mib3Wr 0xA5C3960F), (0x610, .mib4Wr 0xA5C3960F), (0x614, .mib5Wr 0xA5C3960F),
     (0x618, .mib6Wr 0xA5C3960F), (0x61C, .mib7Wr 0xA5C3960F), (0x620, .mib8Wr 0xA5C3960F),
     (0x624, .mib9Wr 0xA5C3960F), (0x628, .mib10Wr 0xA5C3960F), (0x62C, .mib11Wr 0xA5C3960F),
     (0x630, .mib12Wr 0xA5C3960F), (0x634, .mib13Wr 0xA5C3960F), (0x638, .mib14Wr 0xA5C3960F),
     (0x63C, .mib15Wr 0xA5C3960F), (0x640, .mib16Wr 0xA5C3960F), (0x644, .mib17Wr 0xA5C3960F),
     (0x648, .mib18Wr 0xA5C3960F), (0x64C, .mib19Wr 0xA5C3960F), (0x650, .mib20Wr 0xA5C3960F),
     (0x654, .mib21Wr 0xA5C3960F), (0x658, .mib22Wr 0xA5C3960F), (0x65C, .mib23Wr 0xA5C3960F),
     (0x660, .mib24Wr 0xA5C3960F), (0x664, .mib25Wr 0xA5C3960F), (0x668, .mib26Wr 0xA5C3960F),
     (0x66C, .mib27Wr 0xA5C3960F), (0x670, .mib28Wr 0xA5C3960F), (0x674, .mib29Wr 0xA5C3960F)]) = true := by decide

theorem test_mib_write_words_b : allDecode (busWords 0xA5C3960F [
     (0x678, .mib30Wr 0xA5C3960F), (0x67C, .mib31Wr 0xA5C3960F), (0x680, .mib32Wr 0xA5C3960F),
     (0x684, .mib33Wr 0xA5C3960F), (0x688, .mib34Wr 0xA5C3960F), (0x68C, .mib35Wr 0xA5C3960F),
     (0x690, .mib36Wr 0xA5C3960F), (0x694, .mib37Wr 0xA5C3960F), (0x698, .mib38Wr 0xA5C3960F),
     (0x69C, .mib39Wr 0xA5C3960F), (0x6A0, .mib40Wr 0xA5C3960F), (0x6A4, .mib41Wr 0xA5C3960F),
     (0x6A8, .mib42Wr 0xA5C3960F), (0x6AC, .mib43Wr 0xA5C3960F), (0x6B0, .mib44Wr 0xA5C3960F),
     (0x6B4, .mib45Wr 0xA5C3960F), (0x6B8, .mib46Wr 0xA5C3960F), (0x6BC, .mib47Wr 0xA5C3960F),
     (0x6C0, .mib48Wr 0xA5C3960F), (0x6C4, .mib49Wr 0xA5C3960F), (0x6C8, .mib50Wr 0xA5C3960F),
     (0x6CC, .mib51Wr 0xA5C3960F), (0x6D0, .mib52Wr 0xA5C3960F), (0x6D4, .mib53Wr 0xA5C3960F),
     (0x6D8, .mib54Wr 0xA5C3960F), (0x6DC, .mib55Wr 0xA5C3960F), (0x6E0, .mib56Wr 0xA5C3960F)]) = true := by decide

theorem test_phy_read_words : allDecode (phyWords 0xBEEF [
     (0x00, .phyRd0), (0x01, .phyRd1), (0x02, .phyRd2), (0x03, .phyRd3), (0x04, .phyRd4),
     (0x05, .phyRd5), (0x06, .phyRd6), (0x07, .phyRd7), (0x08, .phyRd8), (0x09, .phyRd9),
     (0x0A, .phyRd10), (0x0B, .phyRd11), (0x0C, .phyRd12), (0x0D, .phyRd13), (0x0E, .phyRd14),
     (0x0F, .phyRd15), (0x10, .phyRd16), (0x11, .phyRd17), (0x12, .phyRd18), (0x13, .phyRd19),
     (0x14, .phyRd20), (0x15, .phyRd21), (0x16, .phyRd22), (0x17, .phyRd23), (0x18, .phyRd24),
     (0x19, .phyRd25), (0x1A, .phyRd26), (0x1B, .phyRd27), (0x1C, .phyRd28), (0x1D, .phyRd29),
     (0x1E, .phyRd30), (0x1F, .phyRd31)]) = true := by decide

theorem test_phy_write_words : allDecode (phyWords 0xBEEF [
     (0x20, .phyWr0 0xBEEF), (0x21, .phyWr1 0xBEEF), (0x22, .phyWr2 0xBEEF),
     (0x23, .phyWr3 0xBEEF), (0x24, .phyWr4 0xBEEF), (0x25, .phyWr5 0xBEEF),
     (0x26, .phyWr6 0xBEEF), (0x27, .phyWr7 0xBEEF), (0x28, .phyWr8 0xBEEF),
     (0x29, .phyWr9 0xBEEF), (0x2A, .phyWr10 0xBEEF), (0x2B, .phyWr11 0xBEEF),
     (0x2C, .phyWr12 0xBEEF), (0x2D, .phyWr13 0xBEEF), (0x2E, .phyWr14 0xBEEF),
     (0x2F, .phyWr15 0xBEEF), (0x30, .phyWr16 0xBEEF), (0x31, .phyWr17 0xBEEF),
     (0x32, .phyWr18 0xBEEF), (0x33, .phyWr19 0xBEEF), (0x34, .phyWr20 0xBEEF),
     (0x35, .phyWr21 0xBEEF), (0x36, .phyWr22 0xBEEF), (0x37, .phyWr23 0xBEEF),
     (0x38, .phyWr24 0xBEEF), (0x39, .phyWr25 0xBEEF), (0x3A, .phyWr26 0xBEEF),
     (0x3B, .phyWr27 0xBEEF), (0x3C, .phyWr28 0xBEEF), (0x3D, .phyWr29 0xBEEF),
     (0x3E, .phyWr30 0xBEEF), (0x3F, .phyWr31 0xBEEF)]) = true := by decide

/-- ST = 2, OP as named, PA = 0x15, RA = 0x0B, TA = 1, DATA = 0xC0DE:
`10 oo 10101 01011 01 1100000011011110`. -/
theorem test_frame_words : allDecode [
     (.mmfr 0x8AADC0DE, .mdioInvalid0 2 0x15 0x0B 1 0xC0DE),
     (.mmfr 0x9AADC0DE, .mdioWrite 2 0x15 0x0B 1 0xC0DE),
     (.mmfr 0xAAADC0DE, .mdioRead 2 0x15 0x0B 1 0xC0DE),
     (.mmfr 0xBAADC0DE, .mdioInvalid3 2 0x15 0x0B 1 0xC0DE)] = true := by decide

theorem test_host_words : allDecode [
     (.host 0 (.params Config.defaultParams), .construct Config.defaultParams),
     (.host 1 .nothing, .canReceive),
     (.host 2 (.frame [0xAA] none), .receive [0xAA] none),
     (.host 3 (.link true), .setLink true)] = true := by decide

/-- What the table's words of each format decode to, every operand bit 0 (logs 11, 12). -/
theorem test_table_words :
    decodeTableWord 16 0x424 = some (.ecrWr 0) ∧ decodeTableWord 32 0x10000000 =
      some (.mdioWrite 0 0 0 0 0) ∧ decodeTableWord 8 0x3F = some (.phyWr31 0) ∧
    decodeTableWord 8 1 = some .canReceive ∧ decodeTableWord 16 0x000 = none := by decide

/-! ### Single operations (95_test_vectors.md L2) -/

/-- What `exec` gives of the next state, through a view of it. -/
def after {α : Type} (i : Instr) (s : State) (f : State → α) : Option α :=
  match exec i s with
  | .next t => some (f t)
  | _ => none

/-- S0 with ETHER_EN set. -/
def enabled : State := { State.reset with ecr := 2 }

/-- VB1 -/
theorem test_eir_write_clears :
    after (.eirWr 0x00800000) { State.reset with eir := 0x0C800000 } State.eir = some 0x0C000000 := by
  decide

/-- VB3 -/
theorem test_eimr_write_then_read :
    after .eimrRd { State.reset with eimr := 0xFFFFFFFF } State.answer = some (.word 0xFFFFFFFF) ∧
    after (.eimrWr 0xFFFFFFFF) State.reset State.eimr = some 0xFFFFFFFF := by decide

/-- An empty receive slot with the wrap bit, at the address. -/
def emptySlot (a : Nat) : Memory := [(a, 0xA0), (a + 6, 0x40)]

/-- VB5 -/
theorem test_rdar_write_rearms :
    after (.rdarWr 0) { enabled with rxCursor := 0x2000, mem := emptySlot 0x2000 } State.rxEnabled =
      some true ∧
    after .rdarRd { enabled with rxEnabled := true } State.answer = some (.word 0x01000000) := by
  decide

/-- VB6 -/
theorem test_rdar_write_without_ether_en :
    after (.rdarWr 0) { State.reset with rxCursor := 0x2000, mem := emptySlot 0x2000 }
      State.rxEnabled = some false := by decide

/-- VB11 -/
theorem test_ecr_write_reset : after (.ecrWr 3) enabled State.ecr = some 0 := by decide

/-- VB12, VB13 -/
theorem test_ecr_write_disables :
    after (.ecrWr 0) { enabled with rxEnabled := true } State.rxEnabled = some false ∧
    after (.ecrWr 0xFFFFFFFE) enabled State.ecr = some 0xFFFFFFFE := by decide

/-- VB14 -/
theorem test_mscr_write_dispatches :
    after (.mscrWr 0xFFFFFFFF) State.reset (fun t => (t.mscr, t.eir, t.log)) =
      some (0xFE, 0x00800000, [.mdioBadOpcode 0]) := by decide

/-- VB15 -/
theorem test_mscr_write_of_hold_bit :
    after (.mscrWr 0x80) State.reset (fun t => (t.mscr, t.eir, t.log)) = some (0x80, 0, []) := by
  decide

/-- VB18 -/
theorem test_rcr_write_masks :
    after (.rcrWr 0xFFFFFFFF) State.reset (fun t => (t.rcr, t.log)) =
      some (0x07FF003F, [.loopbackUnsupported 0xFFFFFFFF]) := by decide

/-- VB20 -/
theorem test_tcr_write_sets_gra :
    after (.tcrWr 1) { State.reset with eimr := 0xFFFFFFFF } (fun t => (t.eir, t.setLineCalls)) =
      some (0x10000000, [(9, true)]) := by decide

/-- VB22, VB23 -/
theorem test_station_address :
    after .palrRd State.reset State.answer = some (.word 0x52540012) ∧
    after .paurRd State.reset State.answer = some (.word 0x34568808) ∧
    after (.paurWr 0xAABB1234) State.reset State.mac =
      some ⟨0x52, 0x54, 0x00, 0x12, 0xAA, 0xBB⟩ := by decide

/-- VB26, VB37 -/
theorem test_stub_writes_log :
    after (.iaurWr 1) State.reset State.log = some [.hashFilterUnsupported 0x118 1] ∧
    after (.mib56Wr 7) State.reset State.log = some [.mibUnsupported 0x2E0 7] := by decide

/-- VB28, VB30, VB31 -/
theorem test_fifo_writes :
    after (.tfwrWr 0xFFFFFFFF) State.reset State.tfwr = some 3 ∧
    after (.rfsrWr 0) State.reset State.rfsr = some 0x400 ∧
    after (.rfsrWr 0xFFFFFFFF) State.reset State.rfsr = some 0x7FC := by decide

/-- VB32, VB33, VB34 -/
theorem test_ring_writes :
    after (.erdsrWr 0x2004) State.reset (fun t => (t.erdsr, t.rxCursor)) = some (0x2000, 0x2000) ∧
    after (.etdsrWr 0x1007) State.reset (fun t => (t.etdsr, t.txCursor)) = some (0x1000, 0x1000) ∧
    after (.emrbrWr 0x5FF) State.reset State.emrbr = some 0x5F0 := by decide

/-- VD1, VD3 -/
theorem test_decode_descriptor :
    State.decodeDesc { State.reset with mem := [(0x1008, 0xA8), (0x100B, 2), (0x100E, 0x30), (0x100F, 0x10)] }
      0x1008 = ⟨0xA800, 2, 0x3010⟩ ∧
    State.decodeDesc { State.reset with
        params := { Config.defaultParams with devEndian := .little }
        mem := [(0x1008, 2), (0x100B, 0xA8), (0x100C, 0x10), (0x100D, 0x30)] } 0x1008 =
      ⟨0xA800, 2, 0x3010⟩ := by decide

/-- VD2 -/
theorem test_encode_descriptor :
    (State.reset.encodeDesc ⟨0x2800, 2, 0x3010⟩ 0x1008).mem =
      [(0x1008, 0x28), (0x100B, 2), (0x100E, 0x30), (0x100F, 0x10)] := by decide

/-- VD8 -/
theorem test_descriptor_wraps_the_address_space :
    (State.reset.encodeDesc ⟨0x8001, 2, 0x03000010⟩ 0xFFFFFFFC).mem =
      [(0, 0x03), (3, 0x10), (0xFFFFFFFC, 0x80), (0xFFFFFFFD, 1), (0xFFFFFFFF, 2)] := by decide

/-- A ring of one ready slot with W and L at 0x1000, two bytes at 0x3000. -/
def oneFrame : State :=
  { enabled with etdsr := 0x1000, txCursor := 0x1000
                 mem := [(0x1000, 0xA8), (0x1003, 2), (0x1006, 0x30), (0x3000, 0x11), (0x3001, 0x22)] }

/-- VT8's shape, one frame -/
theorem test_tdar_write_sends :
    after (.tdarWr 0) oneFrame (fun t => (t.sent, t.eir, t.txCursor, t.mem.head?)) =
      some ([[0x11, 0x22]], 0x0C000000, 0x1000, some (0x1000, 0x28)) := by decide

/-- VT10: the buffer is the slot itself. -/
theorem test_tdar_write_sends_the_slot :
    after (.tdarWr 0) { enabled with etdsr := 0x1000, txCursor := 0x1000
                                     mem := [(0x1000, 0xA8), (0x1003, 8), (0x1006, 0x10)] }
      (fun t => (t.sent, t.readByte 0x1000)) =
      some ([[0xA8, 0, 0, 8, 0, 0, 0x10, 0]], 0x28) := by decide

/-- Two empty receive slots at 0x2000, the second with W, over buffers of 16 bytes. -/
def twoSlots : State :=
  { enabled with erdsr := 0x2000, rxCursor := 0x2000, emrbr := 16, rxEnabled := true
                 mem := [(0x2000, 0x80), (0x2006, 0x40), (0x2008, 0xA0), (0x200E, 0x48)] }

/-- The trailer of the vectors. -/
def trailer : Trailer := ⟨0xA1, 0xA2, 0xA3, 0xA4⟩

/-- A frame of 13 bytes. -/
def frame13 : List Byte := [1, 2, 3, 4, 5, 6, 7, 8, 9, 10, 11, 12, 13]

/-- VR4: the trailer crosses the boundary of two slots. -/
theorem test_receive_splits_the_trailer :
    after (.receive frame13 (some trailer)) twoSlots (fun t =>
      (t.eir, t.decodeDesc 0x2000, t.decodeDesc 0x2008, t.readBytes 0x400C 4, t.readByte 0x4800)) =
      some (0x03000000, ⟨0x0000, 16, 0x4000⟩, ⟨0x2800, 1, 0x4800⟩, [13, 0xA1, 0xA2, 0xA3], 0xA4) := by
  decide

/-- VR10 -/
theorem test_receive_finds_no_slot :
    after (.receive frame13 (some trailer)) { twoSlots with mem := [] }
      (fun t => (t.log, t.mem, t.rxCursor, t.rxEnabled)) =
      some ([.lostEndOfFrame 0x2000], [], 0x2000, false) := by decide

/-- S0 with a non-zero management divisor. -/
def clocked : State := { State.reset with mscr := 0x1A }

/-- VM1, its first half -/
theorem test_mmfr_write_of_phy_register :
    after (.mmfrWr 0x109001E1) clocked (fun t => (t.eir, t.phy[4])) = some (0x00800000, 0x01E1) := by
  decide

/-- VM2 -/
theorem test_mmfr_read_of_phy_register :
    after (.mmfrWr 0x20940000) clocked State.mmfr = some 0x20944001 := by decide

/-- L1.7 -/
theorem test_phy_reset_bit_clears :
    after (.phyWr0 0x9234) State.reset (fun t => t.phy[0]) = some 0x1234 := by decide

/-- R300: the levels, the outputs and the cursors start anew; guest memory stays (log 13). -/
theorem test_construct :
    after (.construct (limited 1)) { oneFrame with eir := 1, sent := [[]] }
      (fun t => (t.eir, t.sent, t.txCursor, t.mem == oneFrame.mem)) = some (0, [], 0, true) := by decide

/-- R247 -/
theorem test_set_link : after (.setLink false) State.reset State.linkUp = some false := by decide

/-- 00_scope.md R13: the table's word runs as the very next step (log 1). -/
theorem test_word_runs_next :
    (match step (State.reset.withFetchWord 16 0x150) with
     | .next t => decide (t = { State.reset with answer := .word 0x00000500 })
     | _ => false) = true := by decide

/-- R49(a) does not hold of the cursors to the letter where the mask has clear bits above bit 2: one
slot on from 0x10000, the cursor is 0x10008, which the mask 0xFFFF0000 changes (log 17). -/
theorem test_cursor_leaves_the_mask :
    after (.tdarWr 0)
      { enabled with params := { Config.defaultParams with ringBaseMask := 0xFFFF0000 }
                     etdsr := 0x10000, txCursor := 0x10000, mem := [(0x10000, 0x88)] }
      (fun t => (t.txCursor, t.txCursor &&& 0xFFFF0000)) = some (0x10008, 0x10000) := by decide

/-! ### States that meet the hypotheses of the statements -/

theorem test_witness_live : Live State.reset ∧ Live enabled ∧ Live oneFrame ∧ Live twoSlots ∧
    Live clocked := ⟨rfl, rfl, rfl, rfl, rfl⟩

/-- DecodeInvertsEncode -/
theorem test_witness_decode_inverts_encode : (Instr.construct (limited 1)).wf = true := by decide

/-- EncodeInvertsDecode -/
theorem test_witness_encode_inverts_decode :
    decode (.bus 32 0x2E0 0x1234) = .instr .mib56Rd ∧
    plainRequest (.bus 32 0x2E0 0x1234) = .bus 32 0x2E0 0 := by decide

/-- A state with one event to happen. -/
def pendingEvent (e : Event) : State := { State.reset with pending := [e] }

/-- StepRunsTheDecodedOperation -/
theorem test_witness_step_runs :
    Live (pendingEvent (.op (.bus 32 0x424 2))) ∧
    (pendingEvent (.op (.bus 32 0x424 2))).pending = .op (.bus 32 0x424 2) :: [] ∧
    decode (.bus 32 0x424 2) = .instr (.ecrWr 2) := ⟨rfl, rfl, by decide⟩

/-- BusMasterMemoryAccesses, each clause; the store wraps the address space. -/
theorem test_witness_memory_accesses :
    (Live State.reset ∧ State.reset.pending = []) ∧
    (Live (pendingEvent (.store 0xFFFFFFFF [1, 2])) ∧
      (pendingEvent (.store 0xFFFFFFFF [1, 2])).mem.wf = true ∧
      ([1, 2] : List Byte).length ≤ 4294967296 ∧
      (pendingEvent (.store 0xFFFFFFFF [1, 2])).pending = .store 0xFFFFFFFF [1, 2] :: []) ∧
    (Live (pendingEvent (.load 0xFFFFFFFF 2)) ∧
      (pendingEvent (.load 0xFFFFFFFF 2)).pending = .load 0xFFFFFFFF 2 :: []) :=
  ⟨⟨rfl, rfl⟩, ⟨rfl, rfl, by decide, rfl⟩, rfl, rfl⟩

/-- UnknownOffsetEndsTheSession: the hypotheses hold for a command of each clause. -/
theorem test_witness_unknown_offset :
    Live (pendingEvent (.op (.bus 32 0x7FC 5))) ∧ (busOffset 0x7FC).toNat % 4 = 0 ∧
    (busOffset 0x2E0).toNat % 4 = 0 := ⟨rfl, by decide, by decide⟩

/-- UnknownOffsetEndsTheSession: the offsets where its clauses meet. -/
theorem test_unknown_offset_boundaries :
    ([0x000, 0x00C, 0x1FC, 0x2E4, 0x2FC, 0x304, 0x30C, 0x3FC, 0x400, 0x6E4, 0x7FC].all fun c =>
      match decode (.bus 32 (BitVec.ofNat 11 c) 5) with
      | .rejected (.unknownOffset off v) =>
          off == BitVec.ofNat 10 c && v == (if c < 0x400 then none else some 5)
      | _ => false) = true ∧
    ([0x004, 0x200, 0x2E0, 0x300, 0x308, 0x404, 0x600, 0x6E0, 0x700, 0x708].all fun c =>
      match decode (.bus 32 (BitVec.ofNat 11 c) 5) with
      | .instr _ => true
      | _ => false) = true := by decide

/-- BadAccessEndsTheSession, each disjunct: another width, another alignment, both. -/
theorem test_witness_bad_access :
    Live (pendingEvent (.op (.bus 16 0x004 0))) ∧ (16 ≠ 32 ∨ (busOffset 0x004).toNat % 4 ≠ 0) ∧
    (32 ≠ 32 ∨ (busOffset 0x005).toNat % 4 ≠ 0) ∧
    decode (.bus 16 0x004 0) = .rejected (.badAccess 0x004) ∧
    decode (.bus 32 0x005 0) = .rejected (.badAccess 0x005) ∧
    decode (.bus 8 0x7FF 0) = .rejected (.badAccess 0x3FF) := ⟨rfl, by decide, by decide, by decide, by decide, by decide⟩

/-- The hypotheses of HostRequestsOutsideTheForms on the request. -/
def OutsideTheForms (code : BitVec 3) (operand : HostOperand) : Prop :=
  (∀ p, code = 0 → operand = .params p → p.maxDescPerPass = some 0) ∧
  (code = 1 → operand ≠ .nothing) ∧
  (∀ bytes draw, code = 2 → operand ≠ .frame bytes draw) ∧
  (∀ b, code = 3 → operand ≠ .link b)

/-- HostRequestsOutsideTheForms: the least and the greatest code with no event, the operand of
another event under each code that has one, and a CONSTRUCT with `max_desc_per_pass` 0. -/
theorem test_witness_host_requests :
    (Live (pendingEvent (.op (.host 4 .nothing))) ∧ OutsideTheForms 4 .nothing) ∧
    OutsideTheForms 7 (.link true) ∧ OutsideTheForms 0 .nothing ∧ OutsideTheForms 1 (.link true) ∧
    OutsideTheForms 2 .nothing ∧ OutsideTheForms 3 (.frame [] none) ∧
    OutsideTheForms 0 (.params (limited 0)) := by
  simp [OutsideTheForms, Live, pendingEvent, State.reset, limited]

/-- EndedSessionHasNoStep -/
theorem test_witness_ended_session :
    (State.reset.raiseFatal (.badAccess 2)).fatal = some (.badAccess 2) := rfl

/-- EveryOperationCompletes, and the statements whose one hypothesis is a live session:
ControlRegisterReads, FifoRingAndGasketReads, ViewAndConstantReads, StationAddressReads,
EventAndMaskWrites, StationAddressWrites, ModeRegisterWrites, FifoAndSizeWrites, RingBaseWrites,
GasketWritesAndDroppedWrites, StubWritesAreLogged, ManagementFrames, PhyRegisterReads,
PhyRegisterWrites, RdarWriteRearms, ReceiveWithADrawnTrailer, CanReceiveAndSetLink,
ConstructInitialises. -/
theorem test_witness_live_session : Live State.reset := rfl

/-- MibWordsReadZero, MibWordWritesAreLogged, PhyRegisterReads and PhyRegisterWrites: the first and
the last of each list, and how many it has. -/
theorem test_witness_listed_operations :
    .mib0Rd ∈ mibReadOps ∧ .mib56Rd ∈ mibReadOps ∧ mibReadOps.length = 57 ∧
    mibWriteOps.length = 57 ∧ (0, .phyRd0) ∈ phyStoredReadOps ∧ (31, .phyRd31) ∈ phyStoredReadOps ∧
    phyStoredReadOps.length = 28 ∧ phyPlainWriteOps.length = 31 := by decide

/-- RingBaseWrites, its last clause: the default mask. -/
theorem test_witness_ring_mask : State.reset.params.ringBaseMask = 0xFFFFFFF8 := rfl

/-- EcrWriteWithoutReset, with receive enabled before, for both values of ETHER_EN. -/
theorem test_witness_ecr_without_reset :
    Live twoSlots ∧ (0 : Word).getLsbD 0 = false ∧ (2 : Word).getLsbD 0 = false := by
  refine ⟨rfl, ?_, ?_⟩ <;> decide

/-- A state with RXF pending, enabled and on its line, and either reset policy. -/
def interrupting (full : Bool) : State :=
  { twoSlots with params := { Config.defaultParams with fullSoftReset := full }
                  eir := 0x02000000, eimr := 0x02000000, irqState := 0x02000000
                  lines := (Vector.replicate 13 false).set 4 true }

/-- EcrWriteWithReset -/
theorem test_witness_ecr_with_reset :
    Live (interrupting true) ∧ Live (interrupting false) ∧ LinesFollow (interrupting true) ∧
    LinesFollow (interrupting false) ∧ (3 : Word).getLsbD 0 = true := by
  exact ⟨rfl, rfl, by unfold LinesFollow; decide, by unfold LinesFollow; decide, by decide⟩

/-- MmfrWriteDispatches, each clause. -/
theorem test_witness_mmfr_write :
    Live State.reset ∧ State.reset.mscr &&& State.reset.params.mdioDivisorMask = 0 ∧
    Live clocked ∧ clocked.mscr &&& clocked.params.mdioDivisorMask ≠ 0 := by
  refine ⟨rfl, ?_, rfl, ?_⟩ <;> decide

/-- MscrWriteDispatches, each clause: from zero to the least divisor; from zero to the hold bit
alone; and with a divisor already there. -/
theorem test_witness_mscr_write :
    (State.reset.mscr &&& State.reset.params.mdioDivisorMask = 0 ∧
      (2 : Word) &&& 0x000000FE &&& State.reset.params.mdioDivisorMask ≠ 0) ∧
    ¬ (State.reset.mscr &&& State.reset.params.mdioDivisorMask = 0 ∧
      (0x80 : Word) &&& 0x000000FE &&& State.reset.params.mdioDivisorMask ≠ 0) ∧
    ¬ (clocked.mscr &&& clocked.params.mdioDivisorMask = 0 ∧
      (2 : Word) &&& 0x000000FE &&& clocked.params.mdioDivisorMask ≠ 0) := by decide

/-- AdvertisedModesComeBack, PhyResetBitReadsBackCleared -/
theorem test_witness_phy_attached :
    Live clocked ∧ clocked.mscr &&& clocked.params.mdioDivisorMask ≠ 0 ∧
    clocked.params.phyAttached = true := by
  refine ⟨rfl, ?_, rfl⟩; decide

/-- DescriptorRoundTrip -/
theorem test_witness_canonical_memory : oneFrame.mem.wf = true ∧ State.reset.mem.wf = true := by decide

/-- TdarWriteWithoutWork, each disjunct. -/
theorem test_witness_tdar_without_work :
    Live oneFrame ∧ State.reset.ecr.getLsbD 1 = false ∧
    ((true = true) ∧ (0xFEFFFFFF : Word).getLsbD 24 = false) ∧
    (enabled.decodeDesc enabled.txCursor).flags.getLsbD 15 = false := by
  refine ⟨rfl, ?_, ?_, ?_⟩ <;> decide

/-- `oneFrame` with a pass bound to one slot, and no wrap bit, before another ready slot with L. -/
def oneSlotPass : State :=
  { oneFrame with params := limited 1
                  mem := [(0x1000, 0x88), (0x1003, 2), (0x1006, 0x30), (0x1008, 0x88), (0x100B, 1),
                    (0x100E, 0x30), (0x3000, 0x11), (0x3001, 0x22)] }

/-- VT9: the bound stops the pass before the second ready slot. -/
theorem test_tdar_write_stops_at_the_bound :
    after (.tdarWr 0) oneSlotPass (fun t => (t.sent, t.eir, t.txCursor, (t.decodeDesc 0x1008).owned)) =
      some ([[0x11, 0x22]], 0x0C000000, 0x1008, true) := by decide

/-- TransmitSendsAOneSlotFrame, its bounded case: the next slot is ready. -/
theorem test_witness_one_slot_bound :
    Live oneSlotPass ∧ oneSlotPass.params.maxDescPerPass = some 1 ∧
    oneSlotPass.params.maxDescPerPass ≠ some 0 ∧
    (⟨0x8800, 2, 0x3000⟩ : Desc) = oneSlotPass.decodeDesc oneSlotPass.txCursor ∧
    (⟨0x8800, 2, 0x3000⟩ : Desc).owned = true ∧ (⟨0x8800, 2, 0x3000⟩ : Desc).last = true ∧
    (0x1008 : Word) = (if (⟨0x8800, 2, 0x3000⟩ : Desc).wrap then oneSlotPass.etdsr
      else oneSlotPass.txCursor + 8) := by
  refine ⟨rfl, ?_⟩; decide

/-- TransmitSendsAOneSlotFrame, its unbounded case: the descriptor of `oneFrame`, whose slot wraps to
itself. -/
theorem test_witness_one_slot_frame :
    Live oneFrame ∧ oneFrame.ecr.getLsbD 1 = true ∧
    (oneFrame.params.tdarRequiresBit24 = true → (0 : Word).getLsbD 24 = true) ∧
    oneFrame.params.maxDescPerPass ≠ some 0 ∧
    (⟨0xA800, 2, 0x3000⟩ : Desc) = oneFrame.decodeDesc oneFrame.txCursor ∧
    (⟨0xA800, 2, 0x3000⟩ : Desc).owned = true ∧ (⟨0xA800, 2, 0x3000⟩ : Desc).last = true ∧
    (0x1000 : Word) = (if (⟨0xA800, 2, 0x3000⟩ : Desc).wrap then oneFrame.etdsr
      else oneFrame.txCursor + 8) ∧
    ((oneFrame.encodeDesc ⟨0x2800, 2, 0x3000⟩ oneFrame.txCursor).decodeDesc 0x1000).owned = false := by
  refine ⟨rfl, ?_⟩; decide

/-- TransmitChangesOnlyItsOwn, TransmitPassClearsReadyBits, TransmitPassEndsAtASlotNotReady: the
hypotheses but for the run, which `test_tdar_write_sends` shows; and the slots stored to. -/
theorem test_witness_transmit_pass :
    oneFrame.mem.wf = true ∧ oneFrame.ecr.getLsbD 1 = true ∧ oneFrame.params.tdarRequiresBit24 = false ∧
    (after (.tdarWr 0) oneFrame (fun _ => true)) = some true ∧
    txSlots 3 oneFrame.txCursor [] oneFrame = [0x1000] := by decide

/-- Two ready slots at 0x1000, the second with W and L. -/
def twoSlotFrame : State :=
  { enabled with etdsr := 0x1000, txCursor := 0x1000
                 mem := [(0x1000, 0x80), (0x1003, 2), (0x1006, 0x30), (0x1008, 0xA8), (0x100B, 1),
                   (0x100E, 0x30), (0x100F, 0x10), (0x3000, 0x11), (0x3001, 0x22), (0x3010, 0x33)] }

/-- Its descriptors. -/
def twoDescs : List Desc := [⟨0x8000, 2, 0x3000⟩, ⟨0xA800, 1, 0x3010⟩]

/-- Two spans at numbers that are apart have no address in common. -/
theorem not_inSpan_of_apart {a b x : Word} {n m : Nat} (h : InSpan a n x)
    (ha : a.toNat + n ≤ 4294967296) (hb : b.toNat + m ≤ 4294967296)
    (hd : a.toNat + n ≤ b.toNat ∨ b.toNat + m ≤ a.toNat) : ¬ InSpan b m x := by
  unfold InSpan at *
  have := a.isLt; have := b.isLt; have := x.isLt
  rw [BitVec.toNat_sub] at *
  omega

/-- The slots of `twoSlotFrame`, the second wrapping to the first. -/
def twoTxSlots (k : Nat) : Word := [0x1000, 0x1008, 0x1000].getD k 0

/-- The hypotheses of TransmitReassemblesAFrame on the slots. -/
def ReadySlots (s : State) (ds : List Desc) (slot : Nat → Word) : Prop :=
  ∀ (k : Nat) (hk : k < ds.length),
    s.decodeDesc (slot k) = ds[k] ∧ ds[k].owned = true ∧
    slot (k + 1) = (if ds[k].wrap then s.etdsr else slot k + 8) ∧
    (∀ j < ds.length, j ≠ k → ∀ x, InSpan (slot k) 8 x → ¬ InSpan (slot j) 8 x) ∧
    ∀ j < k, ∀ x, InSpan ds[k].buffer ds[k].length.toNat x → ¬ InSpan (slot j) 8 x

/-- The hypotheses of TransmitReassemblesAFrame on where the pass stops. -/
def StopsAfter (s : State) (ds : List Desc) (slot : Nat → Word) : Prop :=
  s.params.maxDescPerPass = some ds.length ∨
    ((∀ m, s.params.maxDescPerPass = some m → ds.length < m) ∧
      ((s.decodeDesc (slot ds.length)).owned = false ∨ ∃ k < ds.length, slot ds.length = slot k))

/-- TransmitReassemblesAFrame: one frame over two slots, back at the first. -/
theorem test_witness_transmit_frame :
    Live twoSlotFrame ∧ twoSlotFrame.mem.wf = true ∧ twoSlotFrame.ecr.getLsbD 1 = true ∧
    (twoSlotFrame.params.tdarRequiresBit24 = true → (0 : Word).getLsbD 24 = true) ∧
    0 < twoDescs.length ∧ twoDescs.length ≤ 4294967296 ∧ twoTxSlots 0 = twoSlotFrame.txCursor ∧
    ReadySlots twoSlotFrame twoDescs twoTxSlots ∧ StopsAfter twoSlotFrame twoDescs twoTxSlots := by
  refine ⟨rfl, rfl, by decide, by decide, by decide, by decide, by decide, fun k hk => ?_,
    .inr ⟨fun m h => (by cases h), .inr ⟨0, by decide, by decide⟩⟩⟩
  have key : ∀ (k : Nat) (hk : k < twoDescs.length),
      twoSlotFrame.decodeDesc (twoTxSlots k) = twoDescs[k] ∧ twoDescs[k].owned = true ∧
      twoTxSlots (k + 1) =
        (if twoDescs[k].wrap then twoSlotFrame.etdsr else twoTxSlots k + 8) := by decide
  have apart : ∀ (k : Nat) (hk : k < twoDescs.length), ∀ j < twoDescs.length,
      twoDescs[k].buffer.toNat + twoDescs[k].length.toNat ≤ 4294967296 ∧
      (twoTxSlots j).toNat + 8 ≤ 4294967296 ∧
      (twoTxSlots j).toNat + 8 ≤ twoDescs[k].buffer.toNat ∧
      (j ≠ k → (twoTxSlots k).toNat + 8 ≤ (twoTxSlots j).toNat ∨
        (twoTxSlots j).toNat + 8 ≤ (twoTxSlots k).toNat) := by decide
  obtain ⟨h1, h2, h3⟩ := key k hk
  refine ⟨h1, h2, h3, fun j hj hne x h => ?_, fun j hj x h => ?_⟩
  · exact not_inSpan_of_apart h (apart k hk k hk).2.1 (apart k hk j hj).2.1
      ((apart k hk j hj).2.2.2 hne)
  · obtain ⟨a1, a2, a3, -⟩ := apart k hk j (Nat.lt_trans hj hk)
    exact not_inSpan_of_apart h a1 a2 (.inr a3)

/-- `twoSlotFrame` with no L and not ready after the first slot, and with a pass bound to one slot. -/
def openFrame (bound : Option Nat) : State :=
  { twoSlotFrame with params := { Config.defaultParams with maxDescPerPass := bound }
                      mem := [(0x1000, 0x80), (0x1003, 2), (0x1006, 0x30),
                        (0x1008, if bound = none then 0x20 else 0xA0)] }

/-- VT5: a frame left open is lost. -/
theorem test_tdar_write_loses_an_open_frame :
    after (.tdarWr 0) (openFrame none) (fun t => (t.sent, t.eir, t.txCursor)) =
      some ([], 0x04000000, 0x1008) := by decide

/-- TransmitReassemblesAFrame: a frame left open at a slot not ready, and at the bound. -/
theorem test_witness_open_frame :
    ∀ bound ∈ [none, some 1], Live (openFrame bound) ∧ (openFrame bound).mem.wf = true ∧
      twoTxSlots 0 = (openFrame bound).txCursor ∧
      ReadySlots (openFrame bound) [⟨0x8000, 2, 0x3000⟩] twoTxSlots ∧
      StopsAfter (openFrame bound) [⟨0x8000, 2, 0x3000⟩] twoTxSlots := by
  have ready : ∀ bound ∈ [none, some 1],
      (openFrame bound).decodeDesc (twoTxSlots 0) = ⟨0x8000, 2, 0x3000⟩ ∧
      twoTxSlots 1 = (if (⟨0x8000, 2, 0x3000⟩ : Desc).wrap then (openFrame bound).etdsr
        else twoTxSlots 0 + 8) := by decide
  intro bound hb
  refine ⟨rfl, ?_, rfl, fun k hk => ?_, ?_⟩
  · revert bound; decide
  · obtain rfl : k = 0 := by simpa using hk
    refine ⟨(ready bound hb).1, (by decide : (⟨0x8000, 2, 0x3000⟩ : Desc).owned = true),
      (ready bound hb).2, fun j hj hne => ?_, fun j hj => ?_⟩
    · exact absurd (by simpa using hj) hne
    · exact absurd hj (Nat.not_lt_zero j)
  · simp only [List.mem_cons, List.not_mem_nil, or_false] at hb
    obtain rfl | rfl := hb
    · exact .inr ⟨fun m h => (by cases h), .inl (by decide)⟩
    · exact .inl rfl

/-- ReceiveIntoOneSlot: a frame of 12 bytes fills the buffer of 16 exactly. -/
theorem test_witness_receive_one_slot :
    Live twoSlots ∧ (⟨0x8000, 0, 0x4000⟩ : Desc) = twoSlots.decodeDesc twoSlots.rxCursor ∧
    (⟨0x8000, 0, 0x4000⟩ : Desc).owned = true ∧
    min ((frame13.take 12).length + 4) 2032 ≤ twoSlots.emrbr.toNat ∧
    (0x2008 : Word) = (if (⟨0x8000, 0, 0x4000⟩ : Desc).wrap then twoSlots.erdsr
      else twoSlots.rxCursor + 8) ∧
    ∃ u : State, u = (twoSlots.writeBytes (⟨0x8000, 0, 0x4000⟩ : Desc).buffer
        ((frame13.take 12).take (min ((frame13.take 12).length + 4) 2032 - 4) ++
          [trailer.t0, trailer.t1, trailer.t2, trailer.t3])).encodeDesc
      ⟨((0x8000 : Half) &&& 0x7FFF) ||| 0x0800 |||
          (if (frame13.take 12).length + 4 > 2032 then 0x0021
           else if (frame13.take 12).length + 4 > (twoSlots.rcr >>> 16).toNat then 0x0020 else 0),
        BitVec.ofNat 16 (min ((frame13.take 12).length + 4) 2032), 0x4000⟩ twoSlots.rxCursor :=
  ⟨rfl, by decide, by decide, by decide, by decide, _, rfl⟩

/-- ReceiveIntoNoSlot -/
theorem test_witness_receive_no_slot :
    Live { twoSlots with mem := [] } ∧
    (State.decodeDesc { twoSlots with mem := [] } twoSlots.rxCursor).flags.getLsbD 15 = false := by
  refine ⟨rfl, ?_⟩; decide

/-- ReceiveChangesOnlyItsOwn, ReceiveEndsDeliveredOrLogged: the run of
`test_receive_splits_the_trailer`, and that of `test_receive_finds_no_slot`; and the spans stored to. -/
theorem test_witness_receive_pass :
    twoSlots.mem.wf = true ∧
    after (.receive frame13 (some trailer)) twoSlots (fun _ => true) = some true ∧
    receiveSpans twoSlots frame13 (some trailer) =
      [(0x4000, 16), (0x2000, 8), (0x4800, 1), (0x2008, 8)] := by decide

/-- The descriptors of `twoSlots`. -/
def twoEmpty : List Desc := [⟨0x8000, 0, 0x4000⟩, ⟨0xA000, 0, 0x4800⟩]

/-- The delivered stream of `frame13`. -/
def stream13 : List Byte := [1, 2, 3, 4, 5, 6, 7, 8, 9, 10, 11, 12, 13, 0xA1, 0xA2, 0xA3, 0xA4]

/-- The slots of `twoSlots`, the second wrapping to the first. -/
def twoRxSlots (k : Nat) : Word := [0x2000, 0x2008, 0x2000].getD k 0

/-- The stream of a frame of 41 bytes, three chunks of 16 bytes. -/
def stream45 : List Byte := List.replicate 41 0x55 ++ trailer.bytes

/-- The hypotheses of ReceiveSplitsAFrame on the slots. -/
def EmptySlots (s : State) (ds : List Desc) (slot : Nat → Word) (S : List Byte) (m : Nat) : Prop :=
  ∀ (k : Nat) (hk : k < ds.length),
    s.decodeDesc (slot k) = ds[k] ∧ ds[k].owned = true ∧
    slot (k + 1) = (if ds[k].wrap then s.erdsr else slot k + 8) ∧
    ∀ (j : Nat) (hj : j < ds.length),
      (j ≠ k → ∀ x, InSpan (slot k) 8 x → ¬ InSpan (slot j) 8 x) ∧
      ∀ x, InSpan ds[k].buffer (min m (S.length - k * m)) x →
        ¬ InSpan (slot j) 8 x ∧
        (j ≠ k → ¬ InSpan ds[j].buffer (min m (S.length - j * m)) x)

theorem twoSlots_empty (S : List Byte) (m : Nat) (hm : m ≤ 16) :
    EmptySlots twoSlots twoEmpty twoRxSlots S m := by
  intro k hk
  have key : ∀ (k : Nat) (hk : k < twoEmpty.length),
      twoSlots.decodeDesc (twoRxSlots k) = twoEmpty[k] ∧ twoEmpty[k].owned = true ∧
      twoRxSlots (k + 1) = (if twoEmpty[k].wrap then twoSlots.erdsr else twoRxSlots k + 8) := by
    decide
  have apart : ∀ (k : Nat) (hk : k < twoEmpty.length) (j : Nat) (hj : j < twoEmpty.length),
      twoEmpty[k].buffer.toNat + 16 ≤ 4294967296 ∧
      (twoRxSlots j).toNat + 8 ≤ twoEmpty[k].buffer.toNat ∧
      (j ≠ k → (twoEmpty[k].buffer.toNat + 16 ≤ twoEmpty[j].buffer.toNat ∨
          twoEmpty[j].buffer.toNat + 16 ≤ twoEmpty[k].buffer.toNat) ∧
        ((twoRxSlots k).toNat + 8 ≤ (twoRxSlots j).toNat ∨
          (twoRxSlots j).toNat + 8 ≤ (twoRxSlots k).toNat)) := by decide
  have chunk : ∀ k : Nat, min m (S.length - k * m) ≤ 16 := fun k =>
    Nat.le_trans (Nat.min_le_left _ _) hm
  obtain ⟨h1, h2, h3⟩ := key k hk
  refine ⟨h1, h2, h3, fun j hj => ?_⟩
  obtain ⟨a1, a2, a3⟩ := apart k hk j hj
  have c1 := chunk k
  have c2 := chunk j
  have b1 := (apart j hj j hj).1
  have b2 := (apart k hk k hk).2.1
  refine ⟨fun hne x h => ?_, fun x h => ⟨?_, fun hne => ?_⟩⟩
  · have a4 := (a3 hne).2
    exact not_inSpan_of_apart h (by omega) (by omega) a4
  · exact not_inSpan_of_apart h (by omega) (by omega) (.inr a2)
  · have a4 := (a3 hne).1
    exact not_inSpan_of_apart h (by omega) (by omega) (by omega)

/-- ReceiveSplitsAFrame: two chunks in two slots; and three chunks, where the ring comes back to its
first slot, filled. -/
theorem test_witness_receive_splits :
    Live twoSlots ∧ twoSlots.mem.wf = true ∧ 16 = twoSlots.emrbr.toNat ∧
    twoEmpty.length ≤ 4294967296 ∧ twoRxSlots 0 = twoSlots.rxCursor ∧
    (stream13 = frame13.take (min (frame13.length + 4) 2032 - 4) ++
        [trailer.t0, trailer.t1, trailer.t2, trailer.t3] ∧
      EmptySlots twoSlots twoEmpty twoRxSlots stream13 16 ∧
      (twoEmpty.length - 1) * 16 < stream13.length ∧ stream13.length ≤ twoEmpty.length * 16) ∧
    (stream45 = (List.replicate 41 0x55).take (min ((List.replicate 41 (0x55 : Byte)).length + 4)
        2032 - 4) ++ [trailer.t0, trailer.t1, trailer.t2, trailer.t3] ∧
      EmptySlots twoSlots twoEmpty twoRxSlots stream45 16 ∧
      twoEmpty.length * 16 < stream45.length ∧
      ∃ k < twoEmpty.length, twoRxSlots twoEmpty.length = twoRxSlots k) :=
  ⟨rfl, rfl, by decide, by decide, by decide,
    ⟨by decide, twoSlots_empty _ _ (by decide), by decide, by decide⟩,
    ⟨by decide, twoSlots_empty _ _ (by decide), by decide, 0, by decide, by decide⟩⟩

/-- VR13's shape: the end of the frame is lost, RXF is not set and no slot gets L. -/
theorem test_receive_loses_the_end :
    after (.receive (List.replicate 41 0x55) (some trailer)) twoSlots (fun t =>
      (t.eir, t.log, t.decodeDesc 0x2000, t.decodeDesc 0x2008)) =
      some (0x01000000, [.lostEndOfFrame 0x2000], ⟨0x0000, 16, 0x4000⟩, ⟨0x2000, 16, 0x4800⟩) := by
  decide

/-- ReceiveSplitsAFrame: no empty slot at all, N = 0, the slot at the cursor not empty. -/
theorem test_witness_receive_splits_over_none :
    Live { twoSlots with mem := [] } ∧ ([] : List Desc).length * 16 < stream13.length ∧
    (State.decodeDesc { twoSlots with mem := [] } (twoRxSlots 0)).owned = false := by
  refine ⟨rfl, ?_⟩; decide

/-- LinesAreDrivenOnlyOnEdges -/
theorem test_witness_no_edge :
    exec (.tfwrWr 1) State.reset = .next { State.reset with tfwr := 1 } ∧
    (∀ p, Instr.tfwrWr 1 ≠ .construct p) := ⟨rfl, fun _ h => by cases h⟩

/-- NewEventDrivesExactlyItsLine, for the first line and the last. -/
theorem test_witness_new_event :
    ((txf &&& txf) ^^^ (0 : Word) = lineMask 0 ∧ (0 : Word) &&& lineMask 0 = 0) ∧
    ((babr &&& 0xFFFFFFFF) ^^^ (0 : Word) = lineMask 12 ∧ (0 : Word) &&& lineMask 12 = 0) := by decide

/-- EventsAreClearedOnlyByWriteOneOrReset: an operation of each of the three kinds clears RXF. -/
theorem test_witness_event_cleared :
    after (.eirWr 0x02000000) (interrupting true) State.eir = some 0 ∧
    after (.ecrWr 1) (interrupting true) State.eir = some 0 ∧
    after (.construct (limited 1)) (interrupting true) State.eir = some 0 ∧
    (interrupting true).eir &&& ~~~(0 : Word) ≠ 0 := by decide

/-- NeverSetEventsStayClear: a run that sets an event. -/
theorem test_witness_event_set :
    after (.tcrWr 1) State.reset State.eir = some 0x10000000 := by decide

/-- CursorAndEnableWriters, the premise of each clause. -/
theorem test_witness_cursor_writers :
    after (.etdsrWr 0x1000) State.reset State.txCursor = some 0x1000 ∧
    after (.erdsrWr 0x2000) State.reset State.rxCursor = some 0x2000 ∧
    after (.rdarWr 0) { enabled with mem := emptySlot 0 } State.rxEnabled = some true ∧
    after (.ecrWr 0) twoSlots State.rxEnabled = some false := by decide

/-- MemoryIsReachedOnlyByTheEngines, the premise of each clause. -/
theorem test_witness_memory_written :
    after (.tdarWr 0) oneFrame (fun t => (t.mem == oneFrame.mem, t.sent.length)) =
      some (false, 1) := by decide

/-- PhyIsReachedOnlyThroughTheManagementBus, the premise of each clause. -/
theorem test_witness_phy_written :
    after (.mmfrWr 0x109001E1) clocked (fun t => t.phy == clocked.phy) = some false ∧
    after (.setLink false) State.reset (fun t => t.linkUp == State.reset.linkUp) = some false := by
  decide

/-- AddressAndParametersPersist, the premise of each clause. -/
theorem test_witness_address_written :
    after (.palrWr 0x00112233) State.reset (fun t => t.mac == State.reset.mac) = some false ∧
    after (.construct (limited 1)) State.reset (fun t => t.params == State.reset.params) =
      some false := by decide

/-- StepKeepsTheInvariant: a state with the invariant, lines high and a frame to send, and its step. -/
def busyState : State :=
  { interrupting true with etdsr := 0x1000, txCursor := 0x1000, mem := oneFrame.mem
                           pending := [.op (.bus 32 0x414 0)] }

theorem test_witness_invariant :
    Inv busyState ∧ (match step busyState with | .next t => t.sent.length == 1 | _ => false) = true :=
  ⟨{ mem := by decide, eir := by decide, ecr := by decide, mscr := by decide, rcr := by decide
     tfwr := by decide, rfsr := by decide, emrbr := by decide, bases := by decide, cursors := by decide
     lines := by unfold LinesFollow; decide
     sent := fun f hf => by cases hf }, by decide⟩

/-- ReceiveEnabledImpliesEtherEnabled: a re-arm, and a receive with receive enabled before it. -/
theorem test_witness_receive_enabled :
    after (.rdarWr 0) { enabled with mem := emptySlot 0 } State.rxEnabled = some true ∧
    after (.receive [] (some trailer)) twoSlots State.rxEnabled = some true ∧
    twoSlots.rxEnabled = true ∧ twoSlots.ecr.getLsbD 1 = true := by decide

end Sys2Proof.Tests
end

section
/-! SUPPORT. What an operation can do, said once: `Effect` lists the next states, one kind of
operation after the other, and `exec_eq_perform` says that every arm of `exec` is on the list. -/

namespace Sys2Proof.Machine

/-- What a write of the register window can do before the `UPDATE()` at its end: where the write `i`
takes `s` to `u`, `RegWrite s i u` (40_register_file.md R101 to R153). -/
inductive RegWrite (s : State) : Instr → State → Prop
  | eir (v : Word) : RegWrite s (.eirWr v) { s with eir := s.eir &&& ~~~v }
  | eimr (v : Word) : RegWrite s (.eimrWr v) { s with eimr := v }
  | rdar (v : Word) : RegWrite s (.rdarWr v) s.rearm
  | tdar (v : Word) : RegWrite s (.tdarWr v) (s.transmitRequest v)
  | ecr (v : Word) : RegWrite s (.ecrWr v) (s.ecrWrite v)
  | mmfr (v : Word) : RegWrite s (.mmfrWr v) (s.mmfrWrite v)
  | mscr (v : Word) : RegWrite s (.mscrWr v) (s.mscrWrite v)
  | rcr (v : Word) : RegWrite s (.rcrWr v) (s.rcrWrite v)
  | tcr (v : Word) : RegWrite s (.tcrWr v) (s.tcrWrite v)
  | palr (v : Word) : RegWrite s (.palrWr v) { s with mac := palrStored s.mac v }
  | paur (v : Word) : RegWrite s (.paurWr v) { s with mac := paurStored s.mac v }
  | tfwr (v : Word) : RegWrite s (.tfwrWr v) { s with tfwr := tfwrStored v }
  | rfsr (v : Word) : RegWrite s (.rfsrWr v) { s with rfsr := rfsrStored v }
  | erdsr (v : Word) :
      RegWrite s (.erdsrWr v) { s with erdsr := s.ringBase v, rxCursor := s.ringBase v }
  | etdsr (v : Word) :
      RegWrite s (.etdsrWr v) { s with etdsr := s.ringBase v, txCursor := s.ringBase v }
  | emrbr (v : Word) : RegWrite s (.emrbrWr v) { s with emrbr := emrbrStored v }
  | gask0 (v : Word) : RegWrite s (.gask0Wr v) { s with gask0 := v }
  | gask1 (v : Word) : RegWrite s (.gask1Wr v) { s with gask1 := v }
  /-- MIBC, the MIB words and the hash filter: the write is logged and stores nothing -/
  | logged (i : Instr) (r : LogRecord) : RegWrite s i (s.note r)
  /-- FRBR and OPD: the value is dropped -/
  | dropped (i : Instr) : RegWrite s i s

/-- What an operation of a live session can do: where `i` takes `s` to `t`, `Effect s i t`. Which
operations answer, log or drop their value is not recorded. -/
inductive Effect (s : State) : Instr → State → Prop
  /-- a read of any kind, and `CAN_RECEIVE` -/
  | answers (i : Instr) (a : Answer) : Effect s i (s.reply a)
  | writes {i : Instr} {u : State} (h : RegWrite s i u) : Effect s i (u.reply .none).update
  /-- a management frame as a request of its own (log 10) -/
  | manages {i : Instr} (frame : Word) (h : isFrame i = true) :
      Effect s i ({ s with mmfr := frame }.mdioDispatch.reply .none)
  /-- a PHY register write as a request of its own (log 10) -/
  | phyWrites {i : Instr} (ra : BitVec 5) (data : Half) (h : isPhyWrite i = true) :
      Effect s i ((s.phyWrite ra data).reply .none)
  | constructs (p : Params) : Effect s (.construct p) (s.construct p)
  | receives (frame : List Byte) (draw : Option Trailer) :
      Effect s (.receive frame draw) (s.rxPass frame draw)
  | setsLink (b : Bool) : Effect s (.setLink b) ({ s with linkUp := b }.reply .none)

/-! ### The dispatch by its opcode -/

/-- Opcode 1 is a write (44_mdio_phy.md R234). -/
theorem State.mdioDispatch_write {s : State} (h : frameOp s.mmfr = 1) :
    s.mdioDispatch = s.dispatchWrite := by
  simp [State.mdioDispatch, h]

/-- Opcode 2 is a read (44_mdio_phy.md R235). -/
theorem State.mdioDispatch_read {s : State} (h : frameOp s.mmfr = 2) :
    s.mdioDispatch = s.dispatchRead := by
  simp [State.mdioDispatch, h]

/-- Opcodes 0 and 3 are invalid (44_mdio_phy.md R236). -/
theorem State.mdioDispatch_invalid {s : State} (h : frameOp s.mmfr = 0 ∨ frameOp s.mmfr = 3) :
    s.mdioDispatch = s.dispatchInvalid := by
  rcases h with h | h <;> simp [State.mdioDispatch, h]

/-! ### Every arm of `exec` -/

/-- Every operation ends as `perform` of one of its effects: no arm refuses, and the only fault is
that of an ended session (00_scope.md R13, 10_state.md R47). -/
theorem exec_eq_perform (i : Instr) (s : State) : ∃ t, Effect s i t ∧ exec i s = s.perform t := by
  cases i with
  | eirRd | eimrRd | rdarRd | tdarRd | ecrRd | mmfrRd | mscrRd | mibcRd | rcrRd | tcrRd | palrRd
  | paurRd | opdRd | iaurRd | ialrRd | gaurRd | galrRd | tfwrRd | frbrRd | rfsrRd | erdsrRd
  | etdsrRd | emrbrRd | gask0Rd | gask1Rd
  | mib0Rd | mib1Rd | mib2Rd | mib3Rd | mib4Rd | mib5Rd | mib6Rd | mib7Rd | mib8Rd | mib9Rd
  | mib10Rd | mib11Rd | mib12Rd | mib13Rd | mib14Rd | mib15Rd | mib16Rd | mib17Rd | mib18Rd
  | mib19Rd | mib20Rd | mib21Rd | mib22Rd | mib23Rd | mib24Rd | mib25Rd | mib26Rd | mib27Rd
  | mib28Rd | mib29Rd | mib30Rd | mib31Rd | mib32Rd | mib33Rd | mib34Rd | mib35Rd | mib36Rd
  | mib37Rd | mib38Rd | mib39Rd | mib40Rd | mib41Rd | mib42Rd | mib43Rd | mib44Rd | mib45Rd
  | mib46Rd | mib47Rd | mib48Rd | mib49Rd | mib50Rd | mib51Rd | mib52Rd | mib53Rd | mib54Rd
  | mib55Rd | mib56Rd
  | phyRd0 | phyRd1 | phyRd2 | phyRd3 | phyRd4 | phyRd5 | phyRd6 | phyRd7 | phyRd8 | phyRd9
  | phyRd10 | phyRd11 | phyRd12 | phyRd13 | phyRd14 | phyRd15 | phyRd16 | phyRd17 | phyRd18
  | phyRd19 | phyRd20 | phyRd21 | phyRd22 | phyRd23 | phyRd24 | phyRd25 | phyRd26 | phyRd27
  | phyRd28 | phyRd29 | phyRd30 | phyRd31
  | canReceive => exact ⟨_, .answers _ _, rfl⟩
  | eirWr v => exact ⟨_, .writes (.eir v), rfl⟩
  | eimrWr v => exact ⟨_, .writes (.eimr v), rfl⟩
  | rdarWr v => exact ⟨_, .writes (.rdar v), rfl⟩
  | tdarWr v => exact ⟨_, .writes (.tdar v), rfl⟩
  | ecrWr v => exact ⟨_, .writes (.ecr v), rfl⟩
  | mmfrWr v => exact ⟨_, .writes (.mmfr v), rfl⟩
  | mscrWr v => exact ⟨_, .writes (.mscr v), rfl⟩
  | rcrWr v => exact ⟨_, .writes (.rcr v), rfl⟩
  | tcrWr v => exact ⟨_, .writes (.tcr v), rfl⟩
  | palrWr v => exact ⟨_, .writes (.palr v), rfl⟩
  | paurWr v => exact ⟨_, .writes (.paur v), rfl⟩
  | tfwrWr v => exact ⟨_, .writes (.tfwr v), rfl⟩
  | rfsrWr v => exact ⟨_, .writes (.rfsr v), rfl⟩
  | erdsrWr v => exact ⟨_, .writes (.erdsr v), rfl⟩
  | etdsrWr v => exact ⟨_, .writes (.etdsr v), rfl⟩
  | emrbrWr v => exact ⟨_, .writes (.emrbr v), rfl⟩
  | gask0Wr v => exact ⟨_, .writes (.gask0 v), rfl⟩
  | gask1Wr v => exact ⟨_, .writes (.gask1 v), rfl⟩
  | opdWr v | frbrWr v => exact ⟨_, .writes (.dropped _), rfl⟩
  | iaurWr v | ialrWr v | gaurWr v | galrWr v =>
    exact ⟨_, .writes (.logged _ (.hashFilterUnsupported _ v)), rfl⟩
  | mibcWr v
  | mib0Wr v | mib1Wr v | mib2Wr v | mib3Wr v | mib4Wr v | mib5Wr v | mib6Wr v | mib7Wr v
  | mib8Wr v | mib9Wr v | mib10Wr v | mib11Wr v | mib12Wr v | mib13Wr v | mib14Wr v | mib15Wr v
  | mib16Wr v | mib17Wr v | mib18Wr v | mib19Wr v | mib20Wr v | mib21Wr v | mib22Wr v | mib23Wr v
  | mib24Wr v | mib25Wr v | mib26Wr v | mib27Wr v | mib28Wr v | mib29Wr v | mib30Wr v | mib31Wr v
  | mib32Wr v | mib33Wr v | mib34Wr v | mib35Wr v | mib36Wr v | mib37Wr v | mib38Wr v | mib39Wr v
  | mib40Wr v | mib41Wr v | mib42Wr v | mib43Wr v | mib44Wr v | mib45Wr v | mib46Wr v | mib47Wr v
  | mib48Wr v | mib49Wr v | mib50Wr v | mib51Wr v | mib52Wr v | mib53Wr v | mib54Wr v | mib55Wr v
  | mib56Wr v =>
    exact ⟨_, .writes (.logged _ (.mibUnsupported _ v)), rfl⟩
  | mdioInvalid0 st pa ra ta data =>
    refine ⟨_, .manages (mmfrFrame st 0 pa ra ta data) rfl, ?_⟩
    rw [State.mdioDispatch_invalid]
    · rfl
    · exact .inl (frameOp_mmfrFrame ..)
  | mdioWrite st pa ra ta data =>
    refine ⟨_, .manages (mmfrFrame st 1 pa ra ta data) rfl, ?_⟩
    rw [State.mdioDispatch_write]
    · rfl
    · exact frameOp_mmfrFrame ..
  | mdioRead st pa ra ta data =>
    refine ⟨_, .manages (mmfrFrame st 2 pa ra ta data) rfl, ?_⟩
    rw [State.mdioDispatch_read]
    · rfl
    · exact frameOp_mmfrFrame ..
  | mdioInvalid3 st pa ra ta data =>
    refine ⟨_, .manages (mmfrFrame st 3 pa ra ta data) rfl, ?_⟩
    rw [State.mdioDispatch_invalid]
    · rfl
    · exact .inr (frameOp_mmfrFrame ..)
  | phyWr0 data | phyWr1 data | phyWr2 data | phyWr3 data | phyWr4 data | phyWr5 data
  | phyWr6 data | phyWr7 data | phyWr8 data | phyWr9 data | phyWr10 data | phyWr11 data
  | phyWr12 data | phyWr13 data | phyWr14 data | phyWr15 data | phyWr16 data | phyWr17 data
  | phyWr18 data | phyWr19 data | phyWr20 data | phyWr21 data | phyWr22 data | phyWr23 data
  | phyWr24 data | phyWr25 data | phyWr26 data | phyWr27 data | phyWr28 data | phyWr29 data
  | phyWr30 data | phyWr31 data =>
    exact ⟨_, .phyWrites _ data rfl, rfl⟩
  | construct p => exact ⟨_, .constructs p, rfl⟩
  | receive frame draw => exact ⟨_, .receives frame draw, rfl⟩
  | setLink b => exact ⟨_, .setsLink b, rfl⟩

/-- An operation that answers a next state ran in a live session and had one of its effects. -/
theorem effect_of_exec {i : Instr} {s t : State} (h : exec i s = .next t) :
    s.fatal = none ∧ Effect s i t := by
  obtain ⟨u, hu, he⟩ := exec_eq_perform i s
  rw [he, State.perform_eq_next] at h
  obtain ⟨hlive, rfl⟩ := h
  exact ⟨hlive, hu⟩

end Sys2Proof.Machine
end

section
/-! SUPPORT. The part of the state that almost no operation touches: the parameters, the station
address, the events still to happen and the record of a configuration error. -/

namespace Sys2Proof.Machine

/-- `t` has the parameters, the station address, the events to come and the `Fatal` of `s`. -/
structure Kept (s t : State) : Prop where
  params : t.params = s.params
  mac : t.mac = s.mac
  pending : t.pending = s.pending
  fatal : t.fatal = s.fatal

theorem Kept.refl (s : State) : Kept s s := ⟨rfl, rfl, rfl, rfl⟩

theorem Kept.trans {s t u : State} (h : Kept s t) (h' : Kept t u) : Kept s u :=
  ⟨h'.params.trans h.params, h'.mac.trans h.mac, h'.pending.trans h.pending,
    h'.fatal.trans h.fatal⟩

/-- What both branches keep, a choice between them keeps. -/
theorem Kept.ite {s t u : State} {c : Prop} [Decidable c] (ht : Kept s t) (hu : Kept s u) :
    Kept s (if c then t else u) := by
  split
  · exact ht
  · exact hu

/-! ### The shared operations -/

theorem State.kept_reply (s : State) (a : Answer) : Kept s (s.reply a) := ⟨rfl, rfl, rfl, rfl⟩

theorem State.kept_update (s : State) : Kept s s.update := by
  rw [(State.update_spec s).1]
  exact ⟨rfl, rfl, rfl, rfl⟩

/-- The end of a register write, the reply and the `UPDATE()`, keeps what the write kept. -/
theorem Kept.reply_update {s u : State} (h : Kept s u) (a : Answer) :
    Kept s (u.reply a).update :=
  (h.trans (State.kept_reply u a)).trans (State.kept_update _)

theorem State.kept_mdioDispatch (s : State) : Kept s s.mdioDispatch := by
  rw [State.mdioDispatch_frame]
  exact ⟨rfl, rfl, rfl, rfl⟩

theorem State.kept_softReset (s : State) : Kept s s.softReset := by
  obtain ⟨params, mac, -, -, -, -, -, -, -, -, fatal, pending, -, -⟩ := State.softReset_frame s
  exact ⟨params, mac, pending, fatal⟩

theorem State.kept_txLoop (n : Nat) (addr : Word) (acc : List Byte) (s : State) :
    Kept s (State.txLoop n addr acc s).2 := by
  rw [State.txLoop_frame]
  exact ⟨rfl, rfl, rfl, rfl⟩

theorem State.kept_txPass (s : State) : Kept s s.txPass :=
  (State.kept_txLoop s.txLimit s.txCursor [] s).trans ⟨rfl, rfl, rfl, rfl⟩

theorem State.kept_drawTrailer (s : State) (draw : Option Trailer) :
    Kept s (s.drawTrailer draw).2 := by
  cases draw with
  | none => exact ⟨rfl, rfl, rfl, rfl⟩
  | some t => exact Kept.refl s

theorem State.kept_rxLoop (n : Nat) (addr : Word) (rest : List Byte) (err : Half) (s : State) :
    Kept s (State.rxLoop n addr rest err s).2 := by
  rw [State.rxLoop_frame]
  exact ⟨rfl, rfl, rfl, rfl⟩

theorem State.kept_rxExit (s : State) (addr : Word) : Kept s (s.rxExit addr) :=
  ⟨rfl, rfl, rfl, rfl⟩

/-- The pass in its order: the draw, the slots, the exit, the `UPDATE()` (43_receive.md R213). -/
theorem State.kept_rxPass (s : State) (frame : List Byte) (draw : Option Trailer) :
    Kept s (s.rxPass frame draw) :=
  (((State.kept_drawTrailer s draw).trans (State.kept_rxLoop _ _ _ _ _)).trans
    (State.kept_rxExit _ _)).reply_update .none

/-! ### The register writes -/

theorem State.kept_rearm (s : State) : Kept s s.rearm :=
  .ite ⟨rfl, rfl, rfl, rfl⟩ (.refl s)

theorem State.kept_transmitRequest (s : State) (v : Word) : Kept s (s.transmitRequest v) :=
  .ite s.kept_txPass (.refl s)

theorem State.kept_ecrWrite (s : State) (v : Word) : Kept s (s.ecrWrite v) :=
  have stored : Kept s { s with ecr := v } := ⟨rfl, rfl, rfl, rfl⟩
  have reset : Kept s (if v.getLsbD 0 then State.softReset { s with ecr := v }
      else { s with ecr := v }) := .ite (stored.trans (State.kept_softReset _)) stored
  .ite reset (reset.trans ⟨rfl, rfl, rfl, rfl⟩)

theorem State.kept_mmfrWrite (s : State) (v : Word) : Kept s (s.mmfrWrite v) :=
  have stored : Kept s { s with mmfr := v } := ⟨rfl, rfl, rfl, rfl⟩
  .ite (stored.trans (State.kept_mdioDispatch _)) stored

theorem State.kept_mscrWrite (s : State) (v : Word) : Kept s (s.mscrWrite v) :=
  have stored : Kept s { s with mscr := mscrStored v } := ⟨rfl, rfl, rfl, rfl⟩
  .ite (stored.trans (State.kept_mdioDispatch _)) stored

theorem State.kept_rcrWrite (s : State) (v : Word) : Kept s (s.rcrWrite v) :=
  .ite ⟨rfl, rfl, rfl, rfl⟩ ⟨rfl, rfl, rfl, rfl⟩

theorem State.kept_tcrWrite (s : State) (v : Word) : Kept s (s.tcrWrite v) :=
  .ite ⟨rfl, rfl, rfl, rfl⟩ ⟨rfl, rfl, rfl, rfl⟩

/-- The operation is a write of PALR or PAUR (30_encoding.md R81, R82). -/
def WritesStationAddress (i : Instr) : Prop :=
  busCommand i = some 0x4E4 ∨ busCommand i = some 0x4E8

/-- A register write keeps all of it, but that PALR and PAUR store the station address
(40_register_file.md R123, R125). -/
theorem RegWrite.kept {s u : State} {i : Instr} (h : RegWrite s i u) :
    Kept s u ∨ WritesStationAddress i ∧ Kept { s with mac := u.mac } u := by
  cases h with
  | palr v => exact .inr ⟨.inl rfl, Kept.refl _⟩
  | paur v => exact .inr ⟨.inr rfl, Kept.refl _⟩
  | rdar v => exact .inl (State.kept_rearm s)
  | tdar v => exact .inl (State.kept_transmitRequest s v)
  | ecr v => exact .inl (State.kept_ecrWrite s v)
  | mmfr v => exact .inl (State.kept_mmfrWrite s v)
  | mscr v => exact .inl (State.kept_mscrWrite s v)
  | rcr v => exact .inl (State.kept_rcrWrite s v)
  | tcr v => exact .inl (State.kept_tcrWrite s v)
  | eir | eimr | tfwr | rfsr | erdsr | etdsr | emrbr | gask0 | gask1 | logged | dropped =>
    exact .inl ⟨rfl, rfl, rfl, rfl⟩

/-! ### Every operation -/

/-- Every operation keeps all of it, but that PALR, PAUR and `CONSTRUCT` store the station address
and `CONSTRUCT` the parameters. -/
theorem Effect.kept {s t : State} {i : Instr} (h : Effect s i t) :
    Kept s t ∨ (WritesStationAddress i ∧ Kept { s with mac := t.mac } t) ∨
      ∃ p, i = .construct p ∧ t = s.construct p := by
  cases h with
  | answers i a => exact .inl ⟨rfl, rfl, rfl, rfl⟩
  | @writes _ u hw =>
    rcases hw.kept with hk | ⟨hi, hk⟩
    · exact .inl (hk.reply_update .none)
    · have ht := hk.reply_update .none
      rw [← ht.mac] at ht
      exact .inr (.inl ⟨hi, ht⟩)
  | manages frame _ =>
    have stored : Kept s { s with mmfr := frame } := ⟨rfl, rfl, rfl, rfl⟩
    exact .inl ((stored.trans (State.kept_mdioDispatch _)).trans ⟨rfl, rfl, rfl, rfl⟩)
  | phyWrites ra data _ => exact .inl ⟨rfl, rfl, rfl, rfl⟩
  | constructs p => exact .inr (.inr ⟨p, rfl, rfl⟩)
  | receives frame draw => exact .inl (State.kept_rxPass s frame draw)
  | setsLink b => exact .inl ⟨rfl, rfl, rfl, rfl⟩

/-- No operation raises `Fatal` (60_exceptions.md R270). -/
theorem Effect.live {s t : State} {i : Instr} (h : Effect s i t) (hs : Live s) : Live t := by
  rcases h.kept with hk | ⟨_, hk⟩ | ⟨p, _, rfl⟩
  · exact hk.fatal.trans hs
  · exact hk.fatal.trans hs
  · rfl

end Sys2Proof.Machine
end

section
/-! The scope's statements: every operation completes, what survives every operation, and the host
requests outside the admitted forms (00_scope.md R8, R13). -/

namespace Sys2Proof.Machine

/-- Settles O10: every arm of `exec` is `perform` of an effect, and no effect sets `fatal`. -/
theorem everyOperationCompletes : Obligations.EveryOperationCompletes := by
  intro i s hs
  obtain ⟨t, ht, he⟩ := exec_eq_perform i s
  exact ⟨t, he.trans (State.perform_live hs t), ht.live hs⟩

/-- Settles O57, by the three ways an operation treats the station address and the parameters. -/
theorem addressAndParametersPersist : Obligations.AddressAndParametersPersist := by
  intro i s t h
  obtain ⟨hs, heff⟩ := effect_of_exec h
  have hlive : Live t := heff.live hs
  rcases heff.kept with hk | ⟨hpal | hpau, hk⟩ | ⟨p, rfl, rfl⟩
  · exact ⟨fun hm => absurd hk.mac hm, fun hp => absurd hk.params hp, hk.pending, hlive⟩
  · exact ⟨fun _ => .inl hpal, fun hp => absurd hk.params hp, hk.pending, hlive⟩
  · exact ⟨fun _ => .inr (.inl hpau), fun hp => absurd hk.params hp, hk.pending, hlive⟩
  · exact ⟨fun _ => .inr (.inr rfl), fun _ => rfl, rfl, hlive⟩

/-- A request that the decoder rejects ends the session with its record and changes nothing else
(60_exceptions.md R271 to R273; log 8). -/
theorem step_of_rejected {s : State} {r : Request} {f : FatalRecord} {rest : List Event}
    (hs : Live s) (hp : s.pending = .op r :: rest) (hd : decode r = .rejected f) :
    step s = .next { s with pending := rest, fatal := some f } := by
  have hlive : s.fatal = none := hs
  have htake : s.takeEvent = some (.op r, { s with pending := rest }) := by
    simp [State.takeEvent, hp]
  simp only [step, hlive, htake, runEvent, runRequest, hd]
  exact State.perform_live rfl _

/-- `decodeHost` rejects every code and operand outside the four forms (30_encoding.md R93). -/
theorem decodeHost_of_outside_forms {code : BitVec 3} {operand : HostOperand}
    (h0 : ∀ p, code = 0 → operand = .params p → p.maxDescPerPass = some 0)
    (h1 : code = 1 → operand ≠ .nothing)
    (h2 : ∀ bytes draw, code = 2 → operand ≠ .frame bytes draw)
    (h3 : ∀ b, code = 3 → operand ≠ .link b) :
    decodeHost code operand = .rejected (.badEvent code) := by
  unfold decodeHost
  split
  case h_1 p hc =>
    have hwf : p.wf = false := by simp [Params.wf, h0 p (BitVec.eq_of_toNat_eq hc) rfl]
    simp [hwf]
  case h_2 hc => exact absurd rfl (h1 (BitVec.eq_of_toNat_eq hc))
  case h_3 bytes draw hc => exact absurd rfl (h2 bytes draw (BitVec.eq_of_toNat_eq hc))
  case h_4 b hc => exact absurd rfl (h3 b (BitVec.eq_of_toNat_eq hc))
  case h_5 => rfl

/-- Settles O8: outside the four forms the decoder rejects the request, and a rejected request ends
the session. -/
theorem hostRequestsOutsideTheForms : Obligations.HostRequestsOutsideTheForms := by
  intro s code operand rest hs hp h0 h1 h2 h3
  exact step_of_rejected hs hp (decodeHost_of_outside_forms h0 h1 h2 h3)

end Sys2Proof.Machine
end

section
/-! SUPPORT. What the invariant of every step rests on: the masks the register writes apply, the
reset values under them, and the values a ring cursor takes. -/

namespace Sys2Proof.Machine

/-! ### Masks -/

/-- A masked value holds no bit that is clear in the mask. -/
theorem and_mask_and_not (v m : Word) : v &&& m &&& ~~~m = 0 := by
  rw [BitVec.and_assoc, BitVec.and_not_self]
  exact BitVec.and_zero

/-- Bits taken away add none outside the mask. -/
theorem and_and_not_eq_zero {a m : Word} (h : a &&& ~~~m = 0) (v : Word) :
    a &&& v &&& ~~~m = 0 := by
  rw [BitVec.and_assoc, BitVec.and_comm v, ← BitVec.and_assoc, h]
  exact BitVec.zero_and

/-- Bits of the mask added to bits of the mask are bits of the mask. -/
theorem or_and_not_eq_zero {a e m : Word} (ha : a &&& ~~~m = 0) (he : e &&& ~~~m = 0) :
    (a ||| e) &&& ~~~m = 0 := by
  rw [BitVec.and_comm, BitVec.and_or_distrib_left, BitVec.and_comm, ha, BitVec.and_comm, he]
  rfl

/-- RFSR bit 10 reads 1 and the bits outside 10:2 read 0 (40_register_file.md R141). -/
theorem rfsrStored_and_not (v : Word) : rfsrStored v &&& ~~~0x000003FC = 0x00000400 := by
  rw [rfsrStored, BitVec.and_comm, BitVec.and_or_distrib_left, BitVec.and_comm,
    and_mask_and_not]
  decide

/-- The reset value of RCR holds no bit an RCR write does not store (10_state.md R28, R48). -/
theorem reset_rcr_and_not : (0x05EE0001 : Word) &&& ~~~0x07FF003F = 0 := by decide

/-- The reset value of RFSR reads bit 10 as 1 and the bits outside 10:2 as 0 (10_state.md R31,
R48). -/
theorem reset_rfsr_and_not : (0x00000500 : Word) &&& ~~~0x000003FC = 0x00000400 := by decide

/-- EMRBR is a multiple of 16 and at most 2032 (40_register_file.md R147). -/
theorem emrbrStored_bounds (v : Word) :
    (emrbrStored v).toNat % 16 = 0 ∧ (emrbrStored v).toNat ≤ 2032 := by
  constructor
  · have low : emrbrStored v &&& 0x0000000F = 0 := by
      rw [emrbrStored, BitVec.and_assoc, show (0x000007F0 : Word) &&& 0x0000000F = 0 by decide]
      exact BitVec.and_zero
    calc (emrbrStored v).toNat % 16
        = (emrbrStored v).toNat &&& 15 := (Nat.and_two_pow_sub_one_eq_mod _ 4).symm
      _ = (emrbrStored v &&& 0x0000000F).toNat := by rw [BitVec.toNat_and]; rfl
      _ = 0 := by rw [low]; rfl
  · exact (BitVec.toNat_and ..).trans_le Nat.and_le_right

/-! ### Cursors -/

/-- The cursor `c` holds none of the low three bits that are clear in the ring mask `m`: what `Inv`
says of both cursors (10_state.md R49(a), log 17). -/
def OnRing (m c : Word) : Prop := c &&& ~~~m &&& 0x00000007 = 0

/-- A masked base is a value a cursor may take. -/
theorem OnRing.of_base {m base : Word} (h : base &&& ~~~m = 0) : OnRing m base := by
  rw [OnRing, h]
  exact BitVec.zero_and

/-- The advance takes a cursor to the base or 8 bytes on (41_descriptor_codec.md R177). -/
theorem OnRing.next {m addr base : Word} (ha : OnRing m addr) (hb : base &&& ~~~m = 0) (d : Desc) :
    OnRing m (d.next addr base) := by
  unfold Desc.next
  split
  · exact OnRing.of_base hb
  · obtain ⟨v, k, rfl⟩ := (cursor_is_masked_base_plus_eights addr m).mp ha
    exact (cursor_is_masked_base_plus_eights _ m).mpr ⟨v, k + 1, by ring⟩

end Sys2Proof.Machine
end

section
/-! SUPPORT. The two parts of an ECR write: what it stores, and then whether receive stays enabled
(40_register_file.md R111). -/

namespace Sys2Proof.Machine

/-- What an ECR write stores: the value, or with its bit 0 the software reset, which does not depend
on the value just stored. -/
def State.ecrStored (s : State) (v : Word) : State :=
  if v.getLsbD 0 then s.softReset else { s with ecr := v }

variable (s : State) (v : Word)

/-- With ETHER_EN 0 after the store, receive is disabled. -/
theorem State.ecrWrite_eq :
    s.ecrWrite v = if (s.ecrStored v).etherEn then s.ecrStored v
      else { s.ecrStored v with rxEnabled := false } := rfl

theorem State.ecrStored_reset (h : v.getLsbD 0 = true) : s.ecrStored v = s.softReset := if_pos h

theorem State.ecrStored_value (h : ¬ v.getLsbD 0 = true) : s.ecrStored v = { s with ecr := v } :=
  if_neg h

/-- A software reset disables receive (70_reset_and_hazards.md R301). -/
theorem State.softReset_rxEnabled : s.softReset.rxEnabled = false := by
  unfold State.softReset
  split <;> rfl

end Sys2Proof.Machine
end

section
/-! SUPPORT. The invariant through each shared operation: a field it speaks of is as it was or has
the value the operation stores. -/

namespace Sys2Proof.Machine

variable {s : State}

/-- A choice between two states has the invariant, where each has it in its case. -/
theorem Inv.ite {t u : State} {c : Prop} [Decidable c] (ht : c → Inv t) (hu : ¬ c → Inv u) :
    Inv (if c then t else u) := by
  split
  case isTrue hc => exact ht hc
  case isFalse hc => exact hu hc

/-! ### Outputs, memory and events -/

theorem Inv.reply (h : Inv s) (a : Answer) : Inv (s.reply a) := { h with }

theorem Inv.note (h : Inv s) (r : LogRecord) : Inv (s.note r) := { h with }

theorem Inv.writeBytes (h : Inv s) (a : Word) (bs : List Byte) : Inv (s.writeBytes a bs) :=
  { h with mem := State.wf_writeBytes h.mem a bs }

theorem Inv.encodeDesc (h : Inv s) (d : Desc) (a : Word) : Inv (s.encodeDesc d a) :=
  h.writeBytes a _

/-- Only the settable events may be raised (60_exceptions.md R277). -/
theorem Inv.raise (h : Inv s) {e : Word} (he : e &&& ~~~settableEvents = 0) : Inv (s.raise e) :=
  { h with eir := or_and_not_eq_zero h.eir he }

/-- Only a frame within the cap may be sent (42_transmit.md R183). -/
theorem Inv.send (h : Inv s) {bs : List Byte} (hbs : bs.length ≤ 2032) : Inv (s.send bs) :=
  { h with
    sent := fun f hf => by
      rcases List.mem_append.mp hf with hf | hf
      · exact h.sent f hf
      · rwa [List.mem_singleton.mp hf] }

/-! ### The interrupt mapper -/

theorem xor_and_distrib (a b m : Word) : (a ^^^ b) &&& m = (a &&& m) ^^^ (b &&& m) := by
  ext i hi
  simp [Bool.and_xor_distrib_right]

/-- A line whose bit is in no difference of two active sets has one level in both. -/
theorem levelOf_xor_eq_false {a b : Word} {i : Fin 13} (h : levelOf (a ^^^ b) i = false) :
    levelOf a i = levelOf b i := by
  have hx : (a &&& lineMask i) ^^^ (b &&& lineMask i) = 0 := by
    have : (a ^^^ b) &&& lineMask i = 0 := by simpa [levelOf] using h
    rwa [xor_and_distrib] at this
  rw [levelOf, levelOf, BitVec.xor_eq_zero_iff.mp hx]

/-- `UPDATE()` drives each line whose bit changed to its new level, and a line whose bit did not
change is at it already (60_exceptions.md R279, R281). -/
theorem LinesFollow.update (h : LinesFollow s) : LinesFollow s.update := by
  obtain ⟨hirq, hlines, -⟩ := (State.update_spec s).2
  intro i
  rw [hlines i, hirq]
  split
  case isTrue => rfl
  case isFalse hc => rw [h i, levelOf_xor_eq_false (Bool.eq_false_of_not_eq_true hc)]

theorem Inv.update (h : Inv s) : Inv s.update := by
  have hlines := h.lines.update
  rw [(State.update_spec s).1] at hlines ⊢
  exact { h with lines := hlines }

/-! ### Resets and the management bus -/

/-- A constructed block has the invariant over any canonical memory
(70_reset_and_hazards.md R300). -/
theorem Inv.construct (hmem : s.mem.wf = true) (p : Params) : Inv (s.construct p) where
  mem := hmem
  eir := BitVec.zero_and
  ecr := BitVec.getLsbD_zero
  mscr := BitVec.zero_and
  rcr := reset_rcr_and_not
  tfwr := BitVec.zero_and
  rfsr := reset_rfsr_and_not
  emrbr := ⟨rfl, Nat.zero_le _⟩
  bases := ⟨BitVec.zero_and, BitVec.zero_and⟩
  cursors := ⟨OnRing.of_base BitVec.zero_and, OnRing.of_base BitVec.zero_and⟩
  lines := fun i => by simp [State.construct, levelOf]
  sent := by simp [State.construct]

theorem Inv.resetCore (h : Inv s) : Inv s.resetCore :=
  { h with
    eir := BitVec.zero_and
    ecr := BitVec.getLsbD_zero
    mscr := BitVec.zero_and
    rcr := reset_rcr_and_not
    tfwr := BitVec.zero_and
    rfsr := reset_rfsr_and_not }

theorem Inv.resetRest (h : Inv s) : Inv s.resetRest :=
  { h with
    emrbr := ⟨rfl, Nat.zero_le _⟩
    bases := ⟨BitVec.zero_and, BitVec.zero_and⟩
    cursors := ⟨OnRing.of_base BitVec.zero_and, OnRing.of_base BitVec.zero_and⟩ }

theorem Inv.softReset (h : Inv s) : Inv s.softReset :=
  .ite (fun _ => h.resetCore.resetRest) (fun _ => h.resetCore)

/-- Every dispatch sets MII and no other event (44_mdio_phy.md R237). -/
theorem State.mdioDispatch_eir (s : State) : s.mdioDispatch.eir = s.eir ||| mii := by
  unfold State.mdioDispatch State.dispatchWrite State.dispatchRead State.dispatchInvalid
  split
  · split <;> rfl
  · rfl
  · rfl

theorem Inv.mdioDispatch (h : Inv s) : Inv s.mdioDispatch := by
  have heir : s.mdioDispatch.eir &&& ~~~settableEvents = 0 := by
    rw [State.mdioDispatch_eir]
    exact or_and_not_eq_zero h.eir (by decide)
  rw [State.mdioDispatch_frame]
  exact { h with eir := heir }

end Sys2Proof.Machine
end

section
/-! SUPPORT. The invariant through the two engines: a pass keeps it together with the cursor it
walks, slot by slot. -/

namespace Sys2Proof.Machine

/-- A pass stands at the slot `addr` of the state `s`: the invariant holds, and `addr` is a value a
ring cursor may take. -/
structure InvAt (s : State) (addr : Word) : Prop where
  inv : Inv s
  onRing : OnRing s.params.ringBaseMask addr

variable {s : State} {addr : Word}

/-- The pass goes on from the slot `d` to the next, whichever base the ring has. -/
theorem InvAt.next {t : State} {base : Word} (h : InvAt s addr) (ht : Inv t)
    (hp : t.params = s.params) (hb : base &&& ~~~t.params.ringBaseMask = 0) (d : Desc) :
    InvAt t (d.next addr base) :=
  ⟨ht, .next (hp ▸ h.onRing) hb d⟩

/-! ### Transmit -/

/-- The clamp keeps the accumulation buffer within the cap (42_transmit.md R183). -/
theorem State.length_txGather_le (s : State) (d : Desc) {acc : List Byte}
    (hacc : acc.length ≤ 2032) : (s.txGather d acc).1.length ≤ 2032 := by
  unfold State.txGather
  split
  case isTrue =>
    have hcut : acc.length + (2032 - acc.length) ≤ 2032 := by omega
    simpa [Config.frameCap] using hcut
  case isFalse hfits => simpa [Config.frameCap] using hfits

theorem Inv.txGather (h : Inv s) (d : Desc) (acc : List Byte) : Inv (s.txGather d acc).2 := by
  unfold State.txGather
  split
  · exact h.raise (by decide)
  · exact h

theorem State.length_txEndOfFrame_le (s : State) (d : Desc) {acc : List Byte}
    (hacc : acc.length ≤ 2032) : (s.txEndOfFrame d acc).1.length ≤ 2032 := by
  unfold State.txEndOfFrame
  split
  · exact Nat.zero_le _
  · exact hacc

theorem Inv.txEndOfFrame (h : Inv s) (d : Desc) {acc : List Byte} (hacc : acc.length ≤ 2032) :
    Inv (s.txEndOfFrame d acc).2 := by
  unfold State.txEndOfFrame
  split
  · exact (h.send hacc).raise (by decide)
  · exact h

theorem State.length_txSlot_le (s : State) (addr : Word) (d : Desc) {acc : List Byte}
    (hacc : acc.length ≤ 2032) : (s.txSlot addr d acc).1.length ≤ 2032 :=
  State.length_txEndOfFrame_le _ d (s.length_txGather_le d hacc)

theorem Inv.txSlot (h : Inv s) (addr : Word) (d : Desc) {acc : List Byte}
    (hacc : acc.length ≤ 2032) : Inv (s.txSlot addr d acc).2 :=
  (((h.txGather d acc).txEndOfFrame d (s.length_txGather_le d hacc)).raise (by decide)).encodeDesc
    d.release addr

theorem InvAt.txLoop (h : InvAt s addr) (n : Nat) {acc : List Byte} (hacc : acc.length ≤ 2032) :
    InvAt (State.txLoop n addr acc s).2 (State.txLoop n addr acc s).1 := by
  induction n generalizing addr acc s with
  | zero => exact h
  | succ n ih =>
    rw [State.txLoop]
    split
    case isTrue =>
      have ht := h.inv.txSlot addr (s.decodeDesc addr) hacc
      have hp := congrArg State.params (State.txSlot_frame s addr (s.decodeDesc addr) acc)
      exact ih (h.next ht hp ht.bases.2 _) (State.length_txSlot_le s addr _ hacc)
    case isFalse => exact h

theorem Inv.txPass (h : Inv s) : Inv s.txPass :=
  have hend : InvAt _ _ := InvAt.txLoop ⟨h, h.cursors.2⟩ s.txLimit (Nat.zero_le _)
  { hend.inv with cursors := ⟨hend.inv.cursors.1, hend.onRing⟩ }

/-! ### Receive -/

theorem Inv.drawTrailer (h : Inv s) (draw : Option Trailer) : Inv (s.drawTrailer draw).2 := by
  cases draw with
  | none => exact { h with }
  | some t => exact h

theorem Inv.rxSlot (h : Inv s) (addr : Word) (d : Desc) (rest : List Byte) (err : Half) :
    Inv (s.rxSlot addr d rest err).2 := by
  have hevent (final : Bool) : (if final then rxf else rxb) &&& ~~~settableEvents = 0 := by
    cases final <;> decide
  exact ((h.writeBytes _ _).raise (hevent _)).encodeDesc _ addr

theorem InvAt.rxLoop (h : InvAt s addr) (n : Nat) (rest : List Byte) (err : Half) :
    InvAt (State.rxLoop n addr rest err s).2 (State.rxLoop n addr rest err s).1 := by
  induction n generalizing addr rest s with
  | zero => exact h
  | succ n ih =>
    rw [State.rxLoop]
    split
    case isTrue => exact h
    case isFalse =>
      split
      case isTrue =>
        have ht := h.inv.rxSlot addr (s.decodeDesc addr) rest err
        exact ih (h.next ht rfl ht.bases.1 _) _
      case isFalse => exact ⟨h.inv.note _, h.onRing⟩

theorem InvAt.rxExit (h : InvAt s addr) : Inv (s.rxExit addr) :=
  { h.inv with cursors := ⟨h.onRing, h.inv.cursors.2⟩ }

/-- The pass in its order: the draw, the slots, the exit, the `UPDATE()` (43_receive.md R213). -/
theorem Inv.rxPass (h : Inv s) (frame : List Byte) (draw : Option Trailer) :
    Inv (s.rxPass frame draw) :=
  have hdraw : InvAt (s.drawTrailer draw).2 s.rxCursor :=
    ⟨h.drawTrailer draw, (State.kept_drawTrailer s draw).params ▸ h.cursors.1⟩
  ((hdraw.rxLoop _ _ _).rxExit.reply .none).update

end Sys2Proof.Machine
end

section
/-! SUPPORT. The invariant through every operation and every event. -/

namespace Sys2Proof.Machine

variable {s : State}

/-! ### The register writes -/

theorem Inv.rearm (h : Inv s) : Inv s.rearm :=
  .ite (fun _ => { h with }) (fun _ => h)

theorem Inv.transmitRequest (h : Inv s) (v : Word) : Inv (s.transmitRequest v) :=
  .ite (fun _ => h.txPass) (fun _ => h)

/-- Bit 0 of ECR is never stored: with it the reset runs, and leaves ECR 0 (40_register_file.md
R111). -/
theorem Inv.ecrStored (h : Inv s) (v : Word) : Inv (s.ecrStored v) :=
  .ite (fun _ => h.softReset) (fun hv => { h with ecr := Bool.eq_false_of_not_eq_true hv })

theorem Inv.ecrWrite (h : Inv s) (v : Word) : Inv (s.ecrWrite v) := by
  have stored := h.ecrStored v
  rw [State.ecrWrite_eq]
  exact .ite (fun _ => stored) (fun _ => { stored with })

theorem Inv.mmfrWrite (h : Inv s) (v : Word) : Inv (s.mmfrWrite v) :=
  have stored : Inv { s with mmfr := v } := { h with }
  .ite (fun _ => stored.mdioDispatch) (fun _ => stored)

theorem Inv.mscrWrite (h : Inv s) (v : Word) : Inv (s.mscrWrite v) :=
  have stored : Inv { s with mscr := mscrStored v } := { h with mscr := and_mask_and_not v _ }
  .ite (fun _ => stored.mdioDispatch) (fun _ => stored)

theorem Inv.rcrWrite (h : Inv s) (v : Word) : Inv (s.rcrWrite v) :=
  have stored : Inv { s with rcr := rcrStored v } := { h with rcr := and_mask_and_not v _ }
  .ite (fun _ => stored.note _) (fun _ => stored)

theorem Inv.tcrWrite (h : Inv s) (v : Word) : Inv (s.tcrWrite v) :=
  have stored : Inv { s with tcr := v } := { h with }
  .ite (fun _ => stored.raise (by decide)) (fun _ => stored)

theorem RegWrite.inv {u : State} {i : Instr} (hw : RegWrite s i u) (h : Inv s) : Inv u := by
  cases hw with
  | eir v => exact { h with eir := and_and_not_eq_zero h.eir _ }
  | rdar v => exact h.rearm
  | tdar v => exact h.transmitRequest v
  | ecr v => exact h.ecrWrite v
  | mmfr v => exact h.mmfrWrite v
  | mscr v => exact h.mscrWrite v
  | rcr v => exact h.rcrWrite v
  | tcr v => exact h.tcrWrite v
  | tfwr v => exact { h with tfwr := and_mask_and_not v _ }
  | rfsr v => exact { h with rfsr := rfsrStored_and_not v }
  | erdsr v =>
    have hbase := and_mask_and_not v s.params.ringBaseMask
    exact { h with bases := ⟨hbase, h.bases.2⟩, cursors := ⟨OnRing.of_base hbase, h.cursors.2⟩ }
  | etdsr v =>
    have hbase := and_mask_and_not v s.params.ringBaseMask
    exact { h with bases := ⟨h.bases.1, hbase⟩, cursors := ⟨h.cursors.1, OnRing.of_base hbase⟩ }
  | emrbr v => exact { h with emrbr := emrbrStored_bounds v }
  | logged _ r => exact h.note r
  | eimr | palr | paur | gask0 | gask1 | dropped => exact { h with }

/-! ### Operations and events -/

theorem Effect.inv {t : State} {i : Instr} (he : Effect s i t) (h : Inv s) : Inv t := by
  cases he with
  | answers _ a => exact h.reply a
  | writes hw => exact ((hw.inv h).reply .none).update
  | manages frame _ =>
    have stored : Inv { s with mmfr := frame } := { h with }
    exact stored.mdioDispatch.reply .none
  | phyWrites ra data _ => exact { h with }
  | constructs p => exact .construct h.mem p
  | receives frame draw => exact h.rxPass frame draw
  | setsLink b => exact { h with }

theorem runEvent_keeps_inv {t : State} {e : Event} (h : Inv s) (hrun : runEvent e s = .next t) :
    Inv t := by
  cases e with
  | op r =>
    rw [runEvent, runRequest] at hrun
    split at hrun
    case h_1 i _ => exact (effect_of_exec hrun).2.inv h
    case h_2 f _ =>
      obtain ⟨-, rfl⟩ := State.perform_eq_next.mp hrun
      exact { h with }
  | store a bs =>
    obtain ⟨-, rfl⟩ := State.perform_eq_next.mp hrun
    exact (h.writeBytes a bs).reply .none
  | load a n =>
    obtain ⟨-, rfl⟩ := State.perform_eq_next.mp hrun
    exact h.reply _

/-- What a step can do: the idle block stays as it is, and else the first pending event runs on the
state without it (20_memory.md R72, R73; log 1). -/
theorem step_eq_next {t : State} (h : step s = .next t) :
    (s.pending = [] ∧ t = s) ∨
      ∃ e rest, s.pending = e :: rest ∧ runEvent e { s with pending := rest } = .next t := by
  unfold step State.takeEvent at h
  split at h
  case h_1 => cases h
  case h_2 =>
    cases hp : s.pending with
    | nil =>
      rw [hp] at h
      cases h
      exact .inl ⟨rfl, rfl⟩
    | cons e rest =>
      rw [hp] at h
      exact .inr ⟨e, rest, rfl, h⟩

end Sys2Proof.Machine
end

section
/-! The invariant and its start: every step keeps it, and the reset state has it (10_state.md R48,
R49). -/

namespace Sys2Proof.Machine

/-- Settles O58, by what a step can do: each event keeps the invariant, each operation by its
effect. -/
theorem stepKeepsTheInvariant : Obligations.StepKeepsTheInvariant := by
  intro s t h hstep
  rcases step_eq_next hstep with ⟨-, rfl⟩ | ⟨e, rest, -, hrun⟩
  · exact h
  · have htaken : Inv { s with pending := rest } := { h with }
    exact runEvent_keeps_inv htaken hrun

/-- The reset state is a block constructed with the default parameters (log 6). -/
theorem State.construct_reset : State.reset.construct Config.defaultParams = State.reset := rfl

/-- Settles O49: the session of the reset state is live, so `CONSTRUCT` completes; the registers
have the values R48 gives by definition. -/
theorem resetIsAConstructedBlock : Obligations.ResetIsAConstructedBlock := by
  have hlines (i : Fin 13) : State.reset.lines[i] = false := by simp [State.reset]
  have hexec : exec (.construct Config.defaultParams) State.reset = .next State.reset :=
    State.perform_live (s := State.reset) rfl (State.reset.construct Config.defaultParams)
  exact ⟨hexec, rfl, rfl, rfl, rfl, rfl, rfl, rfl, rfl, rfl, rfl, rfl, rfl, rfl, rfl, rfl, rfl,
    rfl, rfl, hlines, rfl, rfl, rfl⟩

/-- Settles O59: the reset state is a constructed block over blank memory. -/
theorem resetHasTheInvariant : Obligations.ResetHasTheInvariant := by
  unfold Obligations.ResetHasTheInvariant
  rw [← State.construct_reset]
  exact .construct rfl _

/-- Settles O9: `step` looks at `fatal` first, and every arm of `exec` ends as `perform`, which does
the same. -/
theorem endedSessionHasNoStep : Obligations.EndedSessionHasNoStep := by
  intro s r hs
  refine ⟨by simp only [step, hs], fun i => ?_⟩
  obtain ⟨t, -, he⟩ := exec_eq_perform i s
  rw [he, State.perform_ended hs]

end Sys2Proof.Machine
end

section
/-! SUPPORT. What each compound operation leaves unchanged: as in the frame lemmas of the shared
operations, an operation is the state it began in but for the fields named. -/

namespace Sys2Proof.Machine

variable (s : State)

/-- The end of a register write: the answer and the interrupt side (40_register_file.md R101). -/
theorem State.reply_update_frame (a : Answer) :
    (s.reply a).update = { s with answer := a, irqState := (s.reply a).update.irqState
                                  lines := (s.reply a).update.lines
                                  setLineCalls := (s.reply a).update.setLineCalls } :=
  (State.update_spec (s.reply a)).1

theorem State.rearm_frame : s.rearm = { s with rxEnabled := s.rearm.rxEnabled } := by
  unfold State.rearm
  split <;> rfl

theorem State.transmitRequest_frame (v : Word) :
    s.transmitRequest v = { s with mem := (s.transmitRequest v).mem
                                   eir := (s.transmitRequest v).eir
                                   sent := (s.transmitRequest v).sent
                                   txCursor := (s.transmitRequest v).txCursor } := by
  unfold State.transmitRequest State.txPass
  split
  case isTrue => dsimp only; rw [State.txLoop_frame]
  case isFalse => rfl

theorem State.mmfrWrite_frame (v : Word) :
    s.mmfrWrite v = { s with mmfr := (s.mmfrWrite v).mmfr, phy := (s.mmfrWrite v).phy
                             eir := (s.mmfrWrite v).eir, log := (s.mmfrWrite v).log } := by
  unfold State.mmfrWrite
  dsimp only
  split
  case isTrue => rw [State.mdioDispatch_frame]
  case isFalse => rfl

theorem State.mscrWrite_frame (v : Word) :
    s.mscrWrite v = { s with mscr := mscrStored v, mmfr := (s.mscrWrite v).mmfr
                             phy := (s.mscrWrite v).phy, eir := (s.mscrWrite v).eir
                             log := (s.mscrWrite v).log } := by
  unfold State.mscrWrite
  dsimp only
  split
  case isTrue => rw [State.mdioDispatch_frame]
  case isFalse => rfl

theorem State.rcrWrite_frame (v : Word) :
    s.rcrWrite v = { s with rcr := rcrStored v, log := (s.rcrWrite v).log } := by
  unfold State.rcrWrite
  dsimp only
  split <;> rfl

theorem State.tcrWrite_frame (v : Word) :
    s.tcrWrite v = { s with tcr := v, eir := (s.tcrWrite v).eir } := by
  unfold State.tcrWrite
  dsimp only
  split <;> rfl

theorem State.drawTrailer_frame (draw : Option Trailer) :
    (s.drawTrailer draw).2 = { s with draws := (s.drawTrailer draw).2.draws } := by
  cases draw <;> rfl

theorem State.rxPass_frame (frame : List Byte) (draw : Option Trailer) :
    s.rxPass frame draw =
      { s with mem := (s.rxPass frame draw).mem, eir := (s.rxPass frame draw).eir
               log := (s.rxPass frame draw).log, draws := (s.rxPass frame draw).draws
               rxCursor := (s.rxPass frame draw).rxCursor
               rxEnabled := (s.rxPass frame draw).rxEnabled, answer := .none
               irqState := (s.rxPass frame draw).irqState, lines := (s.rxPass frame draw).lines
               setLineCalls := (s.rxPass frame draw).setLineCalls } := by
  unfold State.rxPass
  dsimp only
  rw [State.reply_update_frame, State.rxLoop_frame, State.drawTrailer_frame]
  rfl

end Sys2Proof.Machine
end

section
/-! SUPPORT. Who writes the cursors, the receive-enabled flag with ECR, the PHY registers and the
link flag: one lemma a field, for the register writes and then for every operation. -/

namespace Sys2Proof.Machine

variable {s t u : State} {i : Instr}

/-! ### The transmit cursor (10_state.md R39) -/

/-- The operation is a write of ETDSR, TDAR or ECR, or `CONSTRUCT`. -/
def WritesTxCursor (i : Instr) : Prop :=
  busCommand i = some 0x584 ∨ busCommand i = some 0x414 ∨ busCommand i = some 0x424 ∨
    isHost i 0 = true

theorem RegWrite.txCursor (h : RegWrite s i u) : u.txCursor = s.txCursor ∨ WritesTxCursor i := by
  cases h with
  | etdsr v => exact .inr (.inl rfl)
  | tdar v => exact .inr (.inr (.inl rfl))
  | ecr v => exact .inr (.inr (.inr (.inl rfl)))
  | rdar v => rw [s.rearm_frame]; exact .inl rfl
  | mmfr v => rw [s.mmfrWrite_frame]; exact .inl rfl
  | mscr v => rw [s.mscrWrite_frame]; exact .inl rfl
  | rcr v => rw [s.rcrWrite_frame]; exact .inl rfl
  | tcr v => rw [s.tcrWrite_frame]; exact .inl rfl
  | eir | eimr | palr | paur | tfwr | rfsr | erdsr | emrbr | gask0 | gask1 | logged | dropped =>
    exact .inl rfl

theorem Effect.txCursor (h : Effect s i t) : t.txCursor = s.txCursor ∨ WritesTxCursor i := by
  cases h with
  | writes hw => rw [State.reply_update_frame]; exact hw.txCursor
  | manages frame _ => rw [State.mdioDispatch_frame]; exact .inl rfl
  | constructs p => exact .inr (.inr (.inr (.inr rfl)))
  | receives frame draw => rw [s.rxPass_frame]; exact .inl rfl
  | answers | phyWrites | setsLink => exact .inl rfl

/-! ### The receive cursor (10_state.md R40) -/

/-- The operation is a write of ERDSR or ECR, `RECEIVE` or `CONSTRUCT`. -/
def WritesRxCursor (i : Instr) : Prop :=
  busCommand i = some 0x580 ∨ busCommand i = some 0x424 ∨ isHost i 2 = true ∨ isHost i 0 = true

theorem RegWrite.rxCursor (h : RegWrite s i u) : u.rxCursor = s.rxCursor ∨ WritesRxCursor i := by
  cases h with
  | erdsr v => exact .inr (.inl rfl)
  | ecr v => exact .inr (.inr (.inl rfl))
  | rdar v => rw [s.rearm_frame]; exact .inl rfl
  | tdar v => rw [s.transmitRequest_frame]; exact .inl rfl
  | mmfr v => rw [s.mmfrWrite_frame]; exact .inl rfl
  | mscr v => rw [s.mscrWrite_frame]; exact .inl rfl
  | rcr v => rw [s.rcrWrite_frame]; exact .inl rfl
  | tcr v => rw [s.tcrWrite_frame]; exact .inl rfl
  | eir | eimr | palr | paur | tfwr | rfsr | etdsr | emrbr | gask0 | gask1 | logged | dropped =>
    exact .inl rfl

theorem Effect.rxCursor (h : Effect s i t) : t.rxCursor = s.rxCursor ∨ WritesRxCursor i := by
  cases h with
  | writes hw => rw [State.reply_update_frame]; exact hw.rxCursor
  | manages frame _ => rw [State.mdioDispatch_frame]; exact .inl rfl
  | constructs p => exact .inr (.inr (.inr (.inr rfl)))
  | receives frame draw => exact .inr (.inr (.inr (.inl rfl)))
  | answers | phyWrites | setsLink => exact .inl rfl

/-! ### The receive-enabled flag and ECR (10_state.md R41) -/

/-- What an operation can do to the two of them: `i` in `s` leaves `rxEnabled` at `rx` and ECR at
`ecr`. -/
inductive EnableEffect (s : State) (i : Instr) (rx : Bool) (ecr : Word) : Prop
  | unchanged (hrx : rx = s.rxEnabled) (hecr : ecr = s.ecr)
  /-- a write of RDAR with ETHER_EN 1 and receive disabled (40_register_file.md R107) -/
  | rearmed (hi : busCommand i = some 0x410) (hoff : s.rxEnabled = false)
      (hen : s.ecr.getLsbD 1 = true) (hecr : ecr = s.ecr)
  /-- a write of ECR, which never enables receive (R111) -/
  | controlled (hi : busCommand i = some 0x424)
      (hrx : rx = true → s.rxEnabled = true ∧ ecr.getLsbD 1 = true)
  | received (frame : List Byte) (draw : Option Trailer) (hi : i = .receive frame draw)
      (hecr : ecr = s.ecr)
  | constructed (hi : isHost i 0 = true) (hrx : rx = false)

theorem State.enable_rearm (s : State) (v : Word) :
    EnableEffect s (.rdarWr v) s.rearm.rxEnabled s.rearm.ecr := by
  have hecr : s.rearm.ecr = s.ecr := by rw [s.rearm_frame]
  by_cases hc : (s.etherEn && !s.rxEnabled) = true
  · obtain ⟨hen, hoff⟩ := (Bool.and_eq_true _ _).mp hc
    exact .rearmed rfl ((Bool.not_eq_true' _).mp hoff) hen hecr
  · have hsame : s.rearm = s := if_neg hc
    exact .unchanged (congrArg State.rxEnabled hsame) hecr

/-- The store of an ECR write leaves the flag alone or, with the reset, clears it. -/
theorem State.rxEnabled_of_ecrStored {s : State} {v : Word} (h : (s.ecrStored v).rxEnabled = true) :
    s.rxEnabled = true := by
  by_cases hv : v.getLsbD 0 = true
  · rw [s.ecrStored_reset v hv, s.softReset_rxEnabled] at h
    exact absurd h Bool.false_ne_true
  · rwa [s.ecrStored_value v hv] at h

theorem State.enable_ecrWrite (s : State) (v : Word) :
    EnableEffect s (.ecrWr v) (s.ecrWrite v).rxEnabled (s.ecrWrite v).ecr := by
  refine .controlled rfl fun hrx => ?_
  rw [State.ecrWrite_eq] at hrx ⊢
  split at hrx
  case isTrue hen => rw [if_pos hen]; exact ⟨State.rxEnabled_of_ecrStored hrx, hen⟩
  case isFalse => exact absurd hrx Bool.false_ne_true

theorem RegWrite.enable (h : RegWrite s i u) : EnableEffect s i u.rxEnabled u.ecr := by
  cases h with
  | rdar v => exact s.enable_rearm v
  | ecr v => exact s.enable_ecrWrite v
  | tdar v => rw [s.transmitRequest_frame]; exact .unchanged rfl rfl
  | mmfr v => rw [s.mmfrWrite_frame]; exact .unchanged rfl rfl
  | mscr v => rw [s.mscrWrite_frame]; exact .unchanged rfl rfl
  | rcr v => rw [s.rcrWrite_frame]; exact .unchanged rfl rfl
  | tcr v => rw [s.tcrWrite_frame]; exact .unchanged rfl rfl
  | eir | eimr | palr | paur | tfwr | rfsr | erdsr | etdsr | emrbr | gask0 | gask1 | logged
  | dropped => exact .unchanged rfl rfl

theorem Effect.enable (h : Effect s i t) : EnableEffect s i t.rxEnabled t.ecr := by
  cases h with
  | writes hw => rw [State.reply_update_frame]; exact hw.enable
  | manages frame _ => rw [State.mdioDispatch_frame]; exact .unchanged rfl rfl
  | constructs p => exact .constructed rfl rfl
  | receives frame draw => rw [s.rxPass_frame]; exact .received frame draw rfl rfl
  | answers | phyWrites | setsLink => exact .unchanged rfl rfl

/-! ### The PHY registers and the link flag (10_state.md R43, R44) -/

theorem State.ecrStored_phy (s : State) (v : Word) :
    (s.ecrStored v).phy = s.phy ∧ (s.ecrStored v).linkUp = s.linkUp := by
  by_cases hv : v.getLsbD 0 = true
  · obtain ⟨-, -, hphy, hlink, -⟩ := s.softReset_frame
    rw [s.ecrStored_reset v hv]
    exact ⟨hphy, hlink⟩
  · rw [s.ecrStored_value v hv]
    exact ⟨rfl, rfl⟩

/-- A write of ECR, with the software reset or without, leaves the PHY alone
(70_reset_and_hazards.md R302). -/
theorem State.ecrWrite_phy (s : State) (v : Word) :
    (s.ecrWrite v).phy = s.phy ∧ (s.ecrWrite v).linkUp = s.linkUp := by
  rw [State.ecrWrite_eq]
  split <;> exact s.ecrStored_phy v

/-- The operation reaches the management bus, or is `CONSTRUCT`. -/
def WritesPhy (i : Instr) : Prop :=
  busCommand i = some 0x440 ∨ busCommand i = some 0x444 ∨ isFrame i = true ∨ isPhyWrite i = true ∨
    isHost i 0 = true

theorem RegWrite.phy (h : RegWrite s i u) : u.phy = s.phy ∨ WritesPhy i := by
  cases h with
  | mmfr v => exact .inr (.inl rfl)
  | mscr v => exact .inr (.inr (.inl rfl))
  | ecr v => exact .inl (s.ecrWrite_phy v).1
  | rdar v => rw [s.rearm_frame]; exact .inl rfl
  | tdar v => rw [s.transmitRequest_frame]; exact .inl rfl
  | rcr v => rw [s.rcrWrite_frame]; exact .inl rfl
  | tcr v => rw [s.tcrWrite_frame]; exact .inl rfl
  | eir | eimr | palr | paur | tfwr | rfsr | erdsr | etdsr | emrbr | gask0 | gask1 | logged
  | dropped => exact .inl rfl

theorem Effect.phy (h : Effect s i t) : t.phy = s.phy ∨ WritesPhy i := by
  cases h with
  | writes hw => rw [State.reply_update_frame]; exact hw.phy
  | manages frame hi => exact .inr (.inr (.inr (.inl hi)))
  | phyWrites ra data hi => exact .inr (.inr (.inr (.inr (.inl hi))))
  | constructs p => exact .inr (.inr (.inr (.inr (.inr rfl))))
  | receives frame draw => rw [s.rxPass_frame]; exact .inl rfl
  | answers | setsLink => exact .inl rfl

/-- No register write reaches the link flag. -/
theorem RegWrite.linkUp (h : RegWrite s i u) : u.linkUp = s.linkUp := by
  cases h with
  | ecr v => exact (s.ecrWrite_phy v).2
  | rdar v => rw [s.rearm_frame]
  | tdar v => rw [s.transmitRequest_frame]
  | mmfr v => rw [s.mmfrWrite_frame]
  | mscr v => rw [s.mscrWrite_frame]
  | rcr v => rw [s.rcrWrite_frame]
  | tcr v => rw [s.tcrWrite_frame]
  | eir | eimr | palr | paur | tfwr | rfsr | erdsr | etdsr | emrbr | gask0 | gask1 | logged
  | dropped => rfl

theorem Effect.linkUp (h : Effect s i t) :
    t.linkUp = s.linkUp ∨ isHost i 3 = true ∨ isHost i 0 = true := by
  cases h with
  | writes hw => rw [State.reply_update_frame]; exact .inl hw.linkUp
  | manages frame _ => rw [State.mdioDispatch_frame]; exact .inl rfl
  | constructs p => exact .inr (.inr rfl)
  | receives frame draw => rw [s.rxPass_frame]; exact .inl rfl
  | setsLink b => exact .inr (.inl rfl)
  | answers | phyWrites => exact .inl rfl

end Sys2Proof.Machine
end

section
/-! The writers of the cursors, of the receive-enabled flag and of the PHY (10_state.md R39 to R44,
R49). -/

namespace Sys2Proof.Machine

/-- Settles O54, by the writers of each field; of the five things an operation can do to
`rxEnabled`, two can set it and three can clear it. -/
theorem cursorAndEnableWriters : Obligations.CursorAndEnableWriters := by
  intro i s t hexec
  obtain ⟨-, heff⟩ := effect_of_exec hexec
  refine ⟨fun htx => heff.txCursor.resolve_left htx, fun hrx => heff.rxCursor.resolve_left hrx,
    ?sets, ?clears⟩
  case sets =>
    rintro ⟨hoff, hon⟩
    cases heff.enable with
    | unchanged hrx _ => simp [hrx, hoff] at hon
    | rearmed hi _ hen _ => exact .inl ⟨hi, hen⟩
    | controlled _ hrx => exact absurd (hrx hon).1 (by simp [hoff])
    | received _ _ hi _ => exact .inr (by rw [hi]; rfl)
    | constructed _ hrx => simp [hrx] at hon
  case clears =>
    rintro ⟨hon, hoff⟩
    cases heff.enable with
    | unchanged hrx _ => simp [hrx, hon] at hoff
    | rearmed _ hoff' _ _ => simp [hoff'] at hon
    | controlled hi _ => exact .inl hi
    | received _ _ hi _ => exact .inr (.inl (by rw [hi]; rfl))
    | constructed hi _ => exact .inr (.inr hi)

/-- Settles O56, by the writers of each field. -/
theorem phyIsReachedOnlyThroughTheManagementBus :
    Obligations.PhyIsReachedOnlyThroughTheManagementBus := by
  intro i s t hexec
  obtain ⟨-, heff⟩ := effect_of_exec hexec
  exact ⟨fun hphy => heff.phy.resolve_left hphy, fun hlink => heff.linkUp.resolve_left hlink⟩

/-- Settles O60: a write of RDAR sets `rxEnabled` under ETHER_EN only, a write of ECR keeps it under
the new ETHER_EN only, and a `RECEIVE` is called while it is set. -/
theorem receiveEnabledImpliesEtherEnabled : Obligations.ReceiveEnabledImpliesEtherEnabled := by
  intro i s t hexec hpolled hs ht
  obtain ⟨-, heff⟩ := effect_of_exec hexec
  cases heff.enable with
  | unchanged hrx hecr => rw [hecr]; exact hs (hrx.symm.trans ht)
  | rearmed _ _ hen hecr => rw [hecr]; exact hen
  | controlled _ hrx => exact (hrx ht).2
  | received frame draw hi hecr => rw [hecr]; exact hs (hpolled frame draw hi)
  | constructed _ hrx => simp [hrx] at ht

end Sys2Proof.Machine
end

section
/-! SUPPORT. One step of a live session, by what is pending: the idle block, a request that decodes,
and the bus master's own accesses to guest memory (20_memory.md R60, R72, R73; logs 1 and 21). -/

namespace Sys2Proof.Machine

variable {s : State} {rest : List Event}

theorem step_idle (hs : Live s) (hp : s.pending = []) : step s = .next s := by
  have hlive : s.fatal = none := hs
  simp only [step, hlive, State.takeEvent, hp]

theorem step_of_pending {e : Event} (hs : Live s) (hp : s.pending = e :: rest) :
    step s = runEvent e { s with pending := rest } := by
  have hlive : s.fatal = none := hs
  simp only [step, hlive, State.takeEvent, hp]

/-- A request that decodes is the operation it decodes to. -/
theorem runEvent_op_of_decode {r : Request} {i : Instr} (hd : decode r = .instr i) :
    runEvent (.op r) s = exec i s := by
  simp only [runEvent, runRequest, hd]

theorem step_of_store {a : Word} {bs : List Byte} (hs : Live s)
    (hp : s.pending = .store a bs :: rest) :
    step s = .next { s.writeBytes a bs with pending := rest, answer := .none } :=
  (step_of_pending hs hp).trans (State.perform_live (s := { s with pending := rest }) hs _)

theorem step_of_load {a : Word} {n : Nat} (hs : Live s) (hp : s.pending = .load a n :: rest) :
    step s = .next { s with pending := rest, answer := .bytes (s.readBytes a n) } := by
  have hstep := (step_of_pending hs hp).trans
    (State.perform_live (s := { s with pending := rest }) hs _)
  have hread : State.readBytes { s with pending := rest } a n = s.readBytes a n :=
    State.readBytes_congr a n fun _ _ => rfl
  rwa [hread] at hstep

end Sys2Proof.Machine
end

section
/-! SUPPORT. Who writes guest memory and the frames sent: the register writes first, where the
transmit pass of TDAR is the only one that reaches either, and then every operation. -/

namespace Sys2Proof.Machine

variable {s t u : State} {i : Instr}

/-- The software reset an ECR write can ask for reaches neither (70_reset_and_hazards.md R302). -/
theorem State.ecrStored_mem_sent (s : State) (v : Word) :
    (s.ecrStored v).mem = s.mem ∧ (s.ecrStored v).sent = s.sent := by
  by_cases hv : v.getLsbD 0 = true
  · obtain ⟨-, -, -, -, -, -, -, hsent, -, hmem, -⟩ := s.softReset_frame
    rw [s.ecrStored_reset v hv]
    exact ⟨hmem, hsent⟩
  · rw [s.ecrStored_value v hv]
    exact ⟨rfl, rfl⟩

theorem State.ecrWrite_mem_sent (s : State) (v : Word) :
    (s.ecrWrite v).mem = s.mem ∧ (s.ecrWrite v).sent = s.sent := by
  rw [State.ecrWrite_eq]
  split <;> exact s.ecrStored_mem_sent v

theorem RegWrite.mem_sent (h : RegWrite s i u) :
    (u.mem = s.mem ∧ u.sent = s.sent) ∨ busCommand i = some 0x414 := by
  cases h with
  | tdar v => exact .inr rfl
  | ecr v => exact .inl (s.ecrWrite_mem_sent v)
  | rdar v => rw [s.rearm_frame]; exact .inl ⟨rfl, rfl⟩
  | mmfr v => rw [s.mmfrWrite_frame]; exact .inl ⟨rfl, rfl⟩
  | mscr v => rw [s.mscrWrite_frame]; exact .inl ⟨rfl, rfl⟩
  | rcr v => rw [s.rcrWrite_frame]; exact .inl ⟨rfl, rfl⟩
  | tcr v => rw [s.tcrWrite_frame]; exact .inl ⟨rfl, rfl⟩
  | eir | eimr | palr | paur | tfwr | rfsr | erdsr | etdsr | emrbr | gask0 | gask1 | logged
  | dropped => exact .inl ⟨rfl, rfl⟩

/-- `RECEIVE` writes memory and sends nothing; `CONSTRUCT` leaves memory and empties `sent`
(70_reset_and_hazards.md R300; log 13). -/
theorem Effect.mem_sent (h : Effect s i t) :
    (t.mem = s.mem ∧ t.sent = s.sent) ∨ busCommand i = some 0x414 ∨
      (isHost i 2 = true ∧ t.sent = s.sent) ∨ (isHost i 0 = true ∧ t.mem = s.mem) := by
  cases h with
  | writes hw => rw [State.reply_update_frame]; exact hw.mem_sent.imp_right .inl
  | manages frame _ => rw [State.mdioDispatch_frame]; exact .inl ⟨rfl, rfl⟩
  | receives frame draw => rw [s.rxPass_frame]; exact .inr (.inr (.inl ⟨rfl, rfl⟩))
  | constructs p => exact .inr (.inr (.inr ⟨rfl, rfl⟩))
  | answers | phyWrites | setsLink => exact .inl ⟨rfl, rfl⟩

end Sys2Proof.Machine
end

section
/-! The statements about guest memory: how a step reaches it, from the bus master's side and from
the engines' (20_memory.md R60 to R63, R72, R73). -/

namespace Sys2Proof.Machine

/-- Settles O5: an idle step, and the two accesses, of which the store reads back inside its span
and leaves every byte outside it alone. -/
theorem busMasterMemoryAccesses : Obligations.BusMasterMemoryAccesses := by
  refine ⟨fun s hs hp => step_idle hs hp, ?store, fun s a n rest hs hp => step_of_load hs hp⟩
  case store =>
    intro s a bs rest hs hwf hlen hp
    exact ⟨_, step_of_store hs hp, fun k hk => s.readByte_writeBytes_inside hwf a bs hlen hk,
      fun x hx => s.readByte_writeBytes_outside a bs hx, rfl⟩

/-- Settles O55, by the four ways an operation treats memory and the frames sent. -/
theorem memoryIsReachedOnlyByTheEngines : Obligations.MemoryIsReachedOnlyByTheEngines := by
  intro i s t hexec
  obtain ⟨-, heff⟩ := effect_of_exec hexec
  rcases heff.mem_sent with ⟨hmem, hsent⟩ | htdar | ⟨hrx, hsent⟩ | ⟨hcons, hmem⟩
  · exact ⟨fun hm => absurd hmem hm, fun hs => absurd hsent hs⟩
  · exact ⟨fun _ => .inl htdar, fun _ => .inl htdar⟩
  · exact ⟨fun _ => .inr hrx, fun hs => absurd hsent hs⟩
  · exact ⟨fun hm => absurd hmem hm, fun _ => .inr hcons⟩

/-- Settles O4: the step runs the next event, and the event is the operation. -/
theorem stepRunsTheDecodedOperation : Obligations.StepRunsTheDecodedOperation := by
  intro s r i rest hs hp hd
  exact (step_of_pending hs hp).trans (runEvent_op_of_decode hd)

end Sys2Proof.Machine
end

section
/-! SUPPORT. The decoder by format: what a bus access can decode to, the register map as a set of
offsets, and for each format the request of the operation it decodes to (30_encoding.md R80 to R93). -/

namespace Sys2Proof

/-! ### Words and tables -/

/-- A command is its top bit and the bits below it (R81, R89). -/
theorem cons_getLsbD_extractLsb' {n : Nat} (x : BitVec (n + 1)) :
    (x.extractLsb' 0 n).cons (x.getLsbD n) = x := by
  simpa [BitVec.msb_eq_getLsbD_last, BitVec.setWidth_eq_extractLsb'] using BitVec.cons_msb_setWidth x

/-- The two parts of a bus command make it up (R81). -/
theorem cons_busIsWrite_busOffset (cmd : BitVec 11) :
    (busOffset cmd).cons (busIsWrite cmd) = cmd :=
  cons_getLsbD_extractLsb' cmd

/-- A lookup finds nothing exactly under the keys that are not in the table. -/
theorem lookup_eq_none_iff {α : Type} {k : Nat} {t : List (Nat × α)} :
    lookup k t = none ↔ k ∉ t.map Prod.fst := by
  induction t with
  | nil => simp [lookup]
  | cons p t ih =>
    obtain ⟨k', a⟩ := p
    by_cases hk : k = k' <;> simp [lookup, hk, ih]

/-! ### The register map (R82) -/

/-- The offsets of R82 but the MIB words. -/
def plainOffsets : List Nat := plainReads.map Prod.fst

/-- Every offset of R82. -/
def busOffsets : List Nat := plainOffsets ++ (List.range 57).map (0x200 + 4 * ·)

theorem keys_busReads : busReads.map Prod.fst = busOffsets := rfl

theorem keys_busWrites : busWrites.map Prod.fst = busOffsets := rfl

/-- The aligned offsets of the map are the 25 plain ones and the span of the MIB words. -/
theorem mem_busOffsets_iff {k : Nat} (hk : k % 4 = 0) :
    k ∈ busOffsets ↔ k ∈ plainOffsets ∨ (0x200 ≤ k ∧ k ≤ 0x2E0) := by
  have hmib : k ∈ (List.range 57).map (0x200 + 4 * ·) ↔ 0x200 ≤ k ∧ k ≤ 0x2E0 := by
    simp only [List.mem_map, List.mem_range]
    exact ⟨by omega, fun h => ⟨(k - 0x200) / 4, by omega, by omega⟩⟩
  rw [busOffsets, List.mem_append, hmib]

/-- The encoder puts every read under the offset the decoder's table has it under, with bit 10
clear. -/
theorem encode_busReads : ∀ p ∈ busReads,
    encode p.2 = .bus 32 ((BitVec.ofNat 10 p.1).cons false) 0 :=
  List.map_inj_left.mp rfl

/-- The encoder puts every write under the offset the decoder's table has it under, with bit 10
set. -/
theorem encode_busWrites (v : Word) : ∀ p ∈ busWrites,
    encode (p.2 v) = .bus 32 ((BitVec.ofNat 10 p.1).cons true) v :=
  List.map_inj_left.mp rfl

/-! ### Bus accesses (R81, R100, R101) -/

/-- What a bus access can decode to: `BusOutcome width cmd v d` where it decodes to `d`. -/
inductive BusOutcome (width : Nat) (cmd : BitVec 11) (v : Word) : Decoded → Prop
  | badAccess (h : width ≠ 32 ∨ (busOffset cmd).toNat % 4 ≠ 0) :
      BusOutcome width cmd v (.rejected (.badAccess (busOffset cmd)))
  | write (mk : Word → Instr) (hwidth : width = 32) (hdir : busIsWrite cmd = true)
      (hmk : lookup (busOffset cmd).toNat busWrites = some mk) :
      BusOutcome width cmd v (.instr (mk v))
  | unknownWrite (hdir : busIsWrite cmd = true) (hnone : (busOffset cmd).toNat ∉ busOffsets) :
      BusOutcome width cmd v (.rejected (.unknownOffset (busOffset cmd) (some v)))
  | read (i : Instr) (hwidth : width = 32) (hdir : busIsWrite cmd = false)
      (hi : lookup (busOffset cmd).toNat busReads = some i) :
      BusOutcome width cmd v (.instr i)
  | unknownRead (hdir : busIsWrite cmd = false) (hnone : (busOffset cmd).toNat ∉ busOffsets) :
      BusOutcome width cmd v (.rejected (.unknownOffset (busOffset cmd) none))

theorem busOutcome_decodeBus (width : Nat) (cmd : BitVec 11) (v : Word) :
    BusOutcome width cmd v (decodeBus width cmd v) := by
  unfold decodeBus
  split
  case isTrue hbad => exact .badAccess hbad
  case isFalse haccess =>
    have hwidth : width = 32 := by omega
    split
    case isTrue hdir =>
      split
      case h_1 mk hmk => exact .write mk hwidth hdir hmk
      case h_2 hnone => exact .unknownWrite hdir (keys_busWrites ▸ lookup_eq_none_iff.mp hnone)
    case isFalse hdir =>
      have hdir : busIsWrite cmd = false := by simpa using hdir
      split
      case h_1 i hi => exact .read i hwidth hdir hi
      case h_2 hnone => exact .unknownRead hdir (keys_busReads ▸ lookup_eq_none_iff.mp hnone)

/-- The request of the operation a bus access decodes to: the table entry names offset and
direction, and these are the whole command. -/
theorem encode_of_decodeBus {width : Nat} {cmd : BitVec 11} {v : Word} {i : Instr}
    (h : decodeBus width cmd v = .instr i) :
    encode i = .bus width cmd (if busIsWrite cmd then v else 0) := by
  have hcmd := cons_busIsWrite_busOffset cmd
  have hout := busOutcome_decodeBus width cmd v
  rw [h] at hout
  cases hout with
  | write mk hwidth hdir hmk =>
    have henc := encode_busWrites v _ (mem_of_lookup hmk)
    rw [hdir] at hcmd
    simpa [hwidth, hdir, hcmd] using henc
  | read i hwidth hdir hi =>
    have henc := encode_busReads _ (mem_of_lookup hi)
    rw [hdir] at hcmd
    simpa [hwidth, hdir, hcmd] using henc

/-- An aligned 32-bit access inside the register map is an operation. -/
theorem decodeBus_of_mapped {cmd : BitVec 11} (v : Word) (haligned : (busOffset cmd).toNat % 4 = 0)
    (hmap : (busOffset cmd).toNat ∈ busOffsets) : ∃ i, decodeBus 32 cmd v = .instr i := by
  have hout := busOutcome_decodeBus 32 cmd v
  generalize decodeBus 32 cmd v = d at hout ⊢
  cases hout with
  | badAccess h => omega
  | write mk | read i => exact ⟨_, rfl⟩
  | unknownWrite _ hnone | unknownRead _ hnone => exact absurd hmap hnone

/-- An aligned 32-bit access outside the register map is rejected with its offset and, for a write,
its value (60_exceptions.md R271). -/
theorem decodeBus_of_unmapped {cmd : BitVec 11} (v : Word)
    (haligned : (busOffset cmd).toNat % 4 = 0) (hmap : (busOffset cmd).toNat ∉ busOffsets) :
    decodeBus 32 cmd v =
      .rejected (.unknownOffset (busOffset cmd) (if busIsWrite cmd then some v else none)) := by
  have hout := busOutcome_decodeBus 32 cmd v
  generalize decodeBus 32 cmd v = d at hout ⊢
  cases hout with
  | badAccess h => omega
  | write mk _ _ hmk =>
    rw [← keys_busWrites, ← lookup_eq_none_iff, hmk] at hmap
    cases hmap
  | read i _ _ hi =>
    rw [← keys_busReads, ← lookup_eq_none_iff, hi] at hmap
    cases hmap
  | unknownWrite hdir | unknownRead hdir => simp [hdir]

/-! ### Management frames (R84, R85) -/

theorem opcode_cases (op : BitVec 2) : op = 0 ∨ op = 1 ∨ op = 2 ∨ op = 3 := by
  revert op; decide

/-- The request of the operation a frame decodes to: the opcode names the operation, and the other
fields are its operands. -/
theorem encode_of_decodeMmfr {frame : Word} {i : Instr} (h : decodeMmfr frame = .instr i) :
    encode i = .mmfr frame := by
  have hfields := mmfrFrame_fields frame
  rcases opcode_cases (frameOp frame) with hop | hop | hop | hop <;>
  · rw [hop] at hfields
    simp only [decodeMmfr, hop] at h
    cases h
    exact congrArg Request.mmfr hfields

/-! ### PHY accesses (R89) -/

theorem encode_phyReadOf (ra : BitVec 5) : encode (phyReadOf ra) = .phy (ra.cons false) 0 := by
  revert ra; decide

theorem encode_phyWriteOf (ra : BitVec 5) (data : Half) :
    encode (phyWriteOf ra data) = .phy (ra.cons true) data := by
  obtain ⟨n⟩ := ra
  fin_cases n <;> rfl

/-- The request of the operation a PHY access decodes to. -/
theorem encode_of_decodePhy {cmd : BitVec 6} {data : Half} {i : Instr}
    (h : decodePhy cmd data = .instr i) :
    encode i = .phy cmd (if cmd.getLsbD 5 then data else 0) := by
  have hcmd := cons_getLsbD_extractLsb' cmd
  unfold decodePhy at h
  cases h
  cases hdir : cmd.getLsbD 5 with
  | true =>
    rw [hdir] at hcmd
    exact (encode_phyWriteOf _ data).trans (by rw [hcmd]; rfl)
  | false =>
    rw [hdir] at hcmd
    exact (encode_phyReadOf _).trans (by rw [hcmd]; rfl)

/-! ### Host events (R93) -/

/-- The request of the operation a host event decodes to: each of the four forms is the encoder's
own, and only `CONSTRUCT` has an operand with a range. -/
theorem wf_and_encode_of_decodeHost {code : BitVec 3} {operand : HostOperand} {i : Instr}
    (h : decodeHost code operand = .instr i) :
    i.wf = true ∧ encode i = .host code operand := by
  unfold decodeHost at h
  split at h
  case h_1 p hcode =>
    obtain rfl : code = 0 := BitVec.eq_of_toNat_eq hcode
    split at h
    case isTrue hwf => cases h; exact ⟨hwf, rfl⟩
    case isFalse => cases h
  case h_2 hcode =>
    obtain rfl : code = 1 := BitVec.eq_of_toNat_eq hcode
    cases h; exact ⟨rfl, rfl⟩
  case h_3 bytes draw hcode =>
    obtain rfl : code = 2 := BitVec.eq_of_toNat_eq hcode
    cases h; exact ⟨rfl, rfl⟩
  case h_4 b hcode =>
    obtain rfl : code = 3 := BitVec.eq_of_toNat_eq hcode
    cases h; exact ⟨rfl, rfl⟩
  case h_5 => cases h

/-- Only `CONSTRUCT`, a host event, can be ill-formed (00_scope.md R8). -/
theorem wf_of_encode_ne_host {i : Instr} (h : ∀ code operand, encode i ≠ .host code operand) :
    i.wf = true := by
  cases i with
  | construct p => exact absurd rfl (h 0 (.params p))
  | _ => rfl

end Sys2Proof
end

section
/-! The encoding's statements: decoder and encoder are inverse to each other, words of the tables,
and the accesses outside the register map (30_encoding.md R80 to R93, 60_exceptions.md R271). -/

namespace Sys2Proof.Machine

/-- Settles O1, by the operation: a frame gives back its fields, CONSTRUCT passes the range check
because it is well-formed, and every other operation has a command of its own, a literal word on
which the decoder's tables evaluate. -/
theorem decodeInvertsEncode : Obligations.DecodeInvertsEncode := by
  intro i hwf
  cases i with
  | mdioInvalid0 st pa ra ta data | mdioWrite st pa ra ta data | mdioRead st pa ra ta data
  | mdioInvalid3 st pa ra ta data =>
    change decodeMmfr (mmfrFrame st _ pa ra ta data) = _
    simp [decodeMmfr]
  | construct p => exact if_pos hwf
  | _ => rfl

/-- Settles O2, by the format of the request. -/
theorem encodeInvertsDecode : Obligations.EncodeInvertsDecode := by
  intro r i h
  cases r with
  | bus width cmd v =>
    have henc := encode_of_decodeBus h
    exact ⟨wf_of_encode_ne_host (by simp [henc]), henc⟩
  | mmfr frame =>
    have henc := encode_of_decodeMmfr h
    exact ⟨wf_of_encode_ne_host (by simp [henc]), henc⟩
  | phy cmd data =>
    have henc := encode_of_decodePhy h
    exact ⟨wf_of_encode_ne_host (by simp [henc]), henc⟩
  | host code operand => exact wf_and_encode_of_decodeHost h

/-- Settles O6: the decoder accepts an aligned 32-bit access exactly inside the register map, and a
rejected request ends the session. -/
theorem unknownOffsetEndsTheSession : Obligations.UnknownOffsetEndsTheSession := by
  intro s cmd v rest hs hp haligned
  have hmap := mem_busOffsets_iff haligned
  split
  case isTrue hin => exact decodeBus_of_mapped v haligned (hmap.mpr hin)
  case isFalse hout =>
    exact step_of_rejected hs hp (decodeBus_of_unmapped v haligned (mt hmap.mp hout))

/-- Settles O3: the words are requests that the encoder writes, but for the data of the two reads,
which the decoder does not use. -/
theorem tableWordsDecode : Obligations.TableWordsDecode :=
  ⟨fun v => decodeInvertsEncode (.ecrWr v) rfl,
   fun _ => rfl,
   fun _ => rfl,
   fun v => decodeInvertsEncode (.gask1Wr v) rfl,
   decodeInvertsEncode (.mdioRead 0 1 5 0 0x41E1) rfl,
   fun data => decodeInvertsEncode (.phyWr4 data) rfl,
   fun b => decodeInvertsEncode (.setLink b) rfl⟩

end Sys2Proof.Machine
end

section
/-! SUPPORT. A register access as a whole: a read that answers a value, a write that runs the
`UPDATE()` once, and the accesses of the 57 MIB words (40_register_file.md R100, R101, R148,
R149). -/

namespace Sys2Proof.Machine

variable {s u : State} {i : Instr}

/-- A register read answers its value and changes nothing else (40_register_file.md R100). -/
theorem answers_of_busRead {v : Word} (hs : Live s) (hexec : exec i s = s.busRead v) :
    exec i s = .next { s with answer := .word v } :=
  hexec.trans (State.busRead_live hs v)

/-- A register write to `u` that leaves the interrupt side to the `UPDATE()` at its end is the write
of R101: `u`, and `UPDATE()` once. -/
theorem writes_of_busWrite (hs : Live s) (hexec : exec i s = s.busWrite u)
    (hirq : u.irqState = s.irqState := by rfl) (hlines : u.lines = s.lines := by rfl)
    (hcalls : u.setLineCalls = s.setLineCalls := by rfl) : Writes i s u := by
  rw [Writes, hexec]
  exact State.busWrite_spec hs hirq hlines hcalls

/-- The arms of `exec` for the reads of the MIB words: the counters never count (R148). -/
theorem map_exec_mibReadOps :
    mibReadOps.map exec = mibReadOps.map fun _ s => s.busRead s.mibCount := rfl

/-- The arms of `exec` for the writes of the MIB words: each logs its own offset (R149). -/
theorem map_exec_mibWriteOps :
    mibWriteOps.map (fun p v s => exec (p.2 v) s) =
      mibWriteOps.map fun p v s => s.busWrite (s.mibStub p.1 v) := rfl

theorem exec_of_mem_mibReadOps (hi : i ∈ mibReadOps) (s : State) :
    exec i s = s.busRead s.mibCount :=
  congrFun (List.map_inj_left.mp map_exec_mibReadOps i hi) s

theorem exec_of_mem_mibWriteOps {p : BitVec 10 × (Word → Instr)} (hp : p ∈ mibWriteOps) (v : Word)
    (s : State) : exec (p.2 v) s = s.busWrite (s.mibStub p.1 v) :=
  congrFun (congrFun (List.map_inj_left.mp map_exec_mibWriteOps p hp) v) s

end Sys2Proof.Machine
end

section
/-! SUPPORT. What the register writes with branches store, in one formula for each, and the views of
the station address by shifts (40_register_file.md R107, R111, R119, R121 to R125). -/

namespace Sys2Proof.Machine

variable (s : State) (v : Word)

/-! ### The station address (R122 to R125) -/

theorem palrView_eq_shifts (m : Mac) :
    palrView m = (m.b0.setWidth 32 <<< 24) ||| (m.b1.setWidth 32 <<< 16) |||
      (m.b2.setWidth 32 <<< 8) ||| m.b3.setWidth 32 := by
  rw [← BitVec.setWidth_eq (palrView m)]
  exact BitVec.setWidth_append_append_append_eq_shiftLeft_setWidth_or

theorem paurView_eq_shifts (m : Mac) :
    paurView m = (m.b4.setWidth 32 <<< 24) ||| (m.b5.setWidth 32 <<< 16) ||| 0x00008808 := by
  rw [← BitVec.setWidth_eq (paurView m)]
  exact BitVec.setWidth_append_append_eq_shiftLeft_setWidth_or

theorem palrStored_eq_shifts (m : Mac) :
    palrStored m v = ⟨(v >>> 24).setWidth 8, (v >>> 16).setWidth 8, (v >>> 8).setWidth 8,
      v.setWidth 8, m.b4, m.b5⟩ := by
  simp only [palrStored, BitVec.setWidth_ushiftRight_eq_extractLsb]
  rw [BitVec.setWidth_eq_extractLsb' (by decide)]

theorem paurStored_eq_shifts (m : Mac) :
    paurStored m v = ⟨m.b0, m.b1, m.b2, m.b3, (v >>> 24).setWidth 8, (v >>> 16).setWidth 8⟩ := by
  simp only [paurStored, BitVec.setWidth_ushiftRight_eq_extractLsb]

/-! ### Receive and transmit control (R119, R121) -/

theorem State.rcrWrite_eq :
    s.rcrWrite v = { s with rcr := rcrStored v
                            log := if v.getLsbD 0 then s.log ++ [.loopbackUnsupported v]
                              else s.log } := by
  unfold State.rcrWrite
  split <;> rfl

theorem State.tcrWrite_eq :
    s.tcrWrite v = { s with tcr := v, eir := if v.getLsbD 0 then s.eir ||| gra else s.eir } := by
  unfold State.tcrWrite
  split <;> rfl

/-! ### ECR without the reset (R111) -/

theorem State.ecrWrite_of_no_reset (hv : v.getLsbD 0 = false) :
    s.ecrWrite v = { s with ecr := v, rxEnabled := s.rxEnabled && v.getLsbD 1 } := by
  have hstored : s.ecrStored v = { s with ecr := v } :=
    s.ecrStored_value v (Bool.eq_false_iff.mp hv)
  have hen : (s.ecrStored v).etherEn = v.getLsbD 1 := by rw [hstored]; rfl
  rw [State.ecrWrite_eq, hen, hstored]
  cases v.getLsbD 1 with
  | true => simp
  | false => simp

/-! ### The descriptor-active registers (R107, R109) -/

/-- The ownership bit is bit 15 of the flags (41_descriptor_codec.md R176). -/
theorem Desc.owned_eq_getLsbD (d : Desc) : d.owned = d.flags.getLsbD 15 := by
  have hbit : d.flags &&& 0x8000 = if d.flags.getLsbD 15 then 0x8000 else 0 :=
    BitVec.and_twoPow d.flags 15
  rw [Desc.owned, hbit]
  cases d.flags.getLsbD 15 <;> rfl

/-- Where ETHER_EN is 1 and receive is disabled the slot at the cursor decides, and nowhere else. -/
theorem State.rearm_rxEnabled :
    s.rearm.rxEnabled = (s.rxEnabled || (s.etherEn && (s.decodeDesc s.rxCursor).owned)) := by
  rw [State.rearm, apply_ite State.rxEnabled]
  dsimp only
  cases s.rxEnabled with
  | true => simp
  | false => cases s.etherEn <;> rfl

theorem State.rearm_eq :
    s.rearm = { s with rxEnabled := s.rxEnabled ||
      (s.ecr.getLsbD 1 && (s.decodeDesc s.rxCursor).flags.getLsbD 15) } := by
  have hrx := s.rearm_rxEnabled
  rw [State.etherEn, Desc.owned_eq_getLsbD] at hrx
  rw [← hrx]
  exact s.rearm_frame

theorem State.txLoop_of_not_owned (n : Nat) {addr : Word} (acc : List Byte)
    (h : (s.decodeDesc addr).owned = false) : State.txLoop n addr acc s = (addr, s) := by
  cases n with
  | zero => rfl
  | succ n => simp [State.txLoop, h]

/-- A pass at a slot that is not ready does nothing (42_transmit.md R182). -/
theorem State.txPass_of_not_owned (h : (s.decodeDesc s.txCursor).owned = false) : s.txPass = s := by
  rw [State.txPass, s.txLoop_of_not_owned _ _ h]

/-- The three ways a transmit request finds nothing to do (R109, 42_transmit.md R182). -/
theorem State.transmitRequest_of_no_work
    (h : s.ecr.getLsbD 1 = false ∨ (s.params.tdarRequiresBit24 = true ∧ v.getLsbD 24 = false) ∨
      (s.decodeDesc s.txCursor).flags.getLsbD 15 = false) : s.transmitRequest v = s := by
  unfold State.transmitRequest State.etherEn
  rcases h with hen | ⟨hreq, hbit⟩ | hready
  · rw [hen, Bool.false_and]
    rfl
  · rw [hreq, hbit, Bool.not_true, Bool.or_false, Bool.and_false]
    rfl
  · rw [s.txPass_of_not_owned (by rw [Desc.owned_eq_getLsbD, hready]), ite_self]

end Sys2Proof.Machine
end

section
/-! SUPPORT. A write of MMFR with a non-zero divisor, where the PHY is attached at PA: what the
write request stores in the PHY, and the frame the read request leaves (44_mdio_phy.md R230, R233 to
R235). -/

namespace Sys2Proof

theorem replace_low_half (hi lo lo' : Half) :
    ((hi ++ lo) &&& 0xFFFF0000) ||| lo'.setWidth 32 = hi ++ lo' := by
  have hmask : (0xFFFF0000 : Word) = BitVec.allOnes 16 ++ (0 : Half) := rfl
  have hlow : lo'.setWidth 32 = (0 : Half) ++ lo' := BitVec.setWidth_eq_append (by decide)
  rw [hmask, hlow, BitVec.and_append, BitVec.or_append, BitVec.and_allOnes]
  simp

/-- The answer of a read dispatch takes the place of the frame's DATA (R235). -/
theorem mmfrFrame_replace_data (st op : BitVec 2) (pa ra : BitVec 5) (ta : BitVec 2)
    (data data' : Half) :
    (mmfrFrame st op pa ra ta data &&& 0xFFFF0000) ||| data'.setWidth 32 =
      mmfrFrame st op pa ra ta data' :=
  replace_low_half (st ++ op ++ pa ++ ra ++ ta) data data'

end Sys2Proof

namespace Sys2Proof.Machine

variable {s : State}

/-! ### The dispatch at the attached PHY -/

theorem State.attached_phyAddr (hphy : s.params.phyAttached = true) :
    s.attached s.params.phyAddr = true := by
  simp [State.attached, hphy]

/-- A write request stores its DATA in the PHY register (R234). -/
theorem State.mdioDispatch_write_attached (hphy : s.params.phyAttached = true) {st : BitVec 2}
    {ra : BitVec 5} {ta : BitVec 2} {data : Half}
    (hframe : s.mmfr = mmfrFrame st 1 s.params.phyAddr ra ta data) :
    s.mdioDispatch = (s.phyWrite ra data).raise mii := by
  rw [State.mdioDispatch_write (by rw [hframe, frameOp_mmfrFrame]), State.dispatchWrite, hframe,
    framePa_mmfrFrame, frameRa_mmfrFrame, frameData_mmfrFrame,
    if_pos (State.attached_phyAddr hphy)]

/-- A read request leaves its frame with the PHY register's answer as DATA (R235). -/
theorem State.mdioDispatch_read_attached (hphy : s.params.phyAttached = true) {st : BitVec 2}
    {ra : BitVec 5} {ta : BitVec 2} {data : Half}
    (hframe : s.mmfr = mmfrFrame st 2 s.params.phyAddr ra ta data) :
    s.mdioDispatch =
      { s with mmfr := mmfrFrame st 2 s.params.phyAddr ra ta (s.phyRead ra) }.raise mii := by
  rw [State.mdioDispatch_read (by rw [hframe, frameOp_mmfrFrame]), State.dispatchRead,
    State.mdioAnswer, hframe, framePa_mmfrFrame, frameRa_mmfrFrame,
    if_pos (State.attached_phyAddr hphy), mmfrFrame_replace_data]

/-! ### The PHY's answers -/

/-- A PHY register's answer does not depend on the frame that asks for it (R241 to R246). -/
theorem State.phyRead_mmfr (s : State) (v : Word) (ra : BitVec 5) :
    State.phyRead { s with mmfr := v } ra = s.phyRead ra := rfl

/-- Register 5 answers the modes advertised in register 4 (R243). -/
theorem State.phyRead_five (s : State) :
    s.phyRead 5 = 0x4000 ||| (s.phy[4] &&& 0x01E0) ||| 0x0001 := rfl

/-! ### The write of MMFR -/

theorem State.mmfrWrite_of_divisor (hdiv : s.mscr &&& s.params.mdioDivisorMask ≠ 0) (v : Word) :
    s.mmfrWrite v = { s with mmfr := v }.mdioDispatch := if_pos hdiv

theorem State.mmfrWrite_write_phy (hdiv : s.mscr &&& s.params.mdioDivisorMask ≠ 0)
    (hphy : s.params.phyAttached = true) (st : BitVec 2) (ra : BitVec 5) (ta : BitVec 2)
    (data : Half) :
    (s.mmfrWrite (mmfrFrame st 1 s.params.phyAddr ra ta data)).phy =
      s.phy.set ra.toNat (if ra = 0 then data &&& ~~~0x8000 else data) := by
  have hdispatch := State.mdioDispatch_write_attached
    (s := { s with mmfr := mmfrFrame st 1 s.params.phyAddr ra ta data }) hphy rfl
  rw [State.mmfrWrite_of_divisor hdiv, hdispatch]
  rfl

theorem State.mmfrWrite_read_mmfr (hdiv : s.mscr &&& s.params.mdioDivisorMask ≠ 0)
    (hphy : s.params.phyAttached = true) (st : BitVec 2) (ra : BitVec 5) (ta : BitVec 2)
    (data : Half) :
    (s.mmfrWrite (mmfrFrame st 2 s.params.phyAddr ra ta data)).mmfr =
      mmfrFrame st 2 s.params.phyAddr ra ta (s.phyRead ra) := by
  have hdispatch := State.mdioDispatch_read_attached
    (s := { s with mmfr := mmfrFrame st 2 s.params.phyAddr ra ta data }) hphy rfl
  rw [State.mmfrWrite_of_divisor hdiv, hdispatch, State.raise_mmfr, State.phyRead_mmfr]

/-- A write of MMFR completes, with the frame and the PHY as the write leaves them; the divisor and
the parameters, so the PHY's attachment, stay (40_register_file.md R113). -/
theorem exec_mmfrWr (hs : Live s) (v : Word) :
    ∃ t, exec (.mmfrWr v) s = .next t ∧ Live t ∧ t.params = s.params ∧ t.mscr = s.mscr ∧
      t.mmfr = (s.mmfrWrite v).mmfr ∧ t.phy = (s.mmfrWrite v).phy := by
  have hkept := (s.kept_mmfrWrite v).reply_update .none
  refine ⟨_, State.perform_live hs _, hkept.fatal.trans hs, hkept.params, ?_⟩
  rw [State.reply_update_frame]
  exact ⟨by rw [State.mmfrWrite_frame], rfl, rfl⟩

end Sys2Proof.Machine
end

section
/-! The statements about the register file (40_register_file.md). -/

namespace Sys2Proof.Machine

/-- Settles O31: the write request stores `data` in register 4 and leaves divisor and attachment,
and the read request of register 5 answers from register 4. -/
theorem advertisedModesComeBack : Obligations.AdvertisedModesComeBack := by
  intro s st st' ta ta' data data' hs hdiv hphy
  obtain ⟨t, ht, hlive, hparams, hmscr, -, hstored⟩ :=
    exec_mmfrWr hs (mmfrFrame st 1 s.params.phyAddr 4 ta data)
  obtain ⟨u, hu, -, -, -, hanswer, -⟩ :=
    exec_mmfrWr hlive (mmfrFrame st' 2 s.params.phyAddr 5 ta' data')
  have hreg4 : t.phy[4] = data := by
    rw [hstored, State.mmfrWrite_write_phy hdiv hphy]
    exact Vector.getElem_set_self _
  have hread := State.mmfrWrite_read_mmfr (s := t) (by rwa [hmscr, hparams]) (by rwa [hparams])
    st' 5 ta' data'
  rw [State.phyRead_five, hreg4, hparams] at hread
  exact ⟨t, u, ht, hu, hanswer.trans hread⟩

/-- Settles O35, by the three ways a transmit request finds nothing to do. -/
theorem tdarWriteWithoutWork : Obligations.TdarWriteWithoutWork := by
  intro s v hs hidle
  have hexec : exec (.tdarWr v) s = s.busWrite (s.transmitRequest v) := rfl
  rw [s.transmitRequest_of_no_work v hidle] at hexec
  exact writes_of_busWrite hs hexec

/-- Settles O11: seven reads of a stored register. -/
theorem controlRegisterReads : Obligations.ControlRegisterReads := by
  intro s hs
  exact ⟨answers_of_busRead hs rfl, answers_of_busRead hs rfl, answers_of_busRead hs rfl,
    answers_of_busRead hs rfl, answers_of_busRead hs rfl, answers_of_busRead hs rfl,
    answers_of_busRead hs rfl⟩

/-- Settles O12: seven reads of a stored register, of the ring registers the base. -/
theorem fifoRingAndGasketReads : Obligations.FifoRingAndGasketReads := by
  intro s hs
  exact ⟨answers_of_busRead hs rfl, answers_of_busRead hs rfl, answers_of_busRead hs rfl,
    answers_of_busRead hs rfl, answers_of_busRead hs rfl, answers_of_busRead hs rfl,
    answers_of_busRead hs rfl⟩

/-- Settles O13: the view of RDAR is its formula, and every stub answers a literal. -/
theorem viewAndConstantReads : Obligations.ViewAndConstantReads := by
  intro s hs
  exact ⟨answers_of_busRead hs rfl, answers_of_busRead hs rfl, answers_of_busRead hs rfl,
    answers_of_busRead hs rfl, answers_of_busRead hs rfl, answers_of_busRead hs rfl,
    answers_of_busRead hs rfl, answers_of_busRead hs rfl, answers_of_busRead hs rfl⟩

/-- Settles O14: the two views, by shifts. -/
theorem stationAddressReads : Obligations.StationAddressReads := by
  intro s hs
  rw [← palrView_eq_shifts, ← paurView_eq_shifts]
  exact ⟨answers_of_busRead hs rfl, answers_of_busRead hs rfl⟩

/-- Settles O15: the arms of the 57 reads are one and the same. -/
theorem mibWordsReadZero : Obligations.MibWordsReadZero := by
  intro i hi s hs
  exact answers_of_busRead hs (exec_of_mem_mibReadOps hi s)

/-- Settles O16: each write stores what the statement names, and `UPDATE()` follows it. -/
theorem eventAndMaskWrites : Obligations.EventAndMaskWrites := by
  intro s v hs
  exact ⟨writes_of_busWrite hs rfl, writes_of_busWrite hs rfl⟩

/-- Settles O17: the stored bytes, by shifts. -/
theorem stationAddressWrites : Obligations.StationAddressWrites := by
  intro s v hs
  rw [← palrStored_eq_shifts, ← paurStored_eq_shifts]
  exact ⟨writes_of_busWrite hs rfl, writes_of_busWrite hs rfl⟩

/-- Settles O18, by what the two writes store. -/
theorem modeRegisterWrites : Obligations.ModeRegisterWrites := by
  intro s v hs
  constructor
  · exact writes_of_busWrite hs (congrArg s.busWrite (s.rcrWrite_eq v))
  · exact writes_of_busWrite hs (congrArg s.busWrite (s.tcrWrite_eq v))

/-- Settles O19: the masks of the three writes are those of the statement. -/
theorem fifoAndSizeWrites : Obligations.FifoAndSizeWrites := by
  intro s v hs
  exact ⟨writes_of_busWrite hs rfl, writes_of_busWrite hs rfl, writes_of_busWrite hs rfl⟩

/-- Settles O20: base and cursor take one masked value, and the default mask has its low three bits
clear. -/
theorem ringBaseWrites : Obligations.RingBaseWrites := by
  intro s v hs
  refine ⟨writes_of_busWrite hs rfl, writes_of_busWrite hs rfl, fun hmask => ?_⟩
  have hlow : v &&& 0xFFFFFFF8 &&& 0x00000007 = 0 := by
    rw [BitVec.and_assoc, show (0xFFFFFFF8 : Word) &&& 0x00000007 = 0 by decide]
    exact BitVec.and_zero
  rw [hmask, ← toNat_and_low, hlow]
  rfl

/-- Settles O21: the gasket registers take the whole value, the dropped writes take none of it. -/
theorem gasketWritesAndDroppedWrites : Obligations.GasketWritesAndDroppedWrites := by
  intro s v hs
  exact ⟨writes_of_busWrite hs rfl, writes_of_busWrite hs rfl, writes_of_busWrite hs rfl,
    writes_of_busWrite hs rfl⟩

/-- Settles O22: a stub write is one log record with the register's offset. -/
theorem stubWritesAreLogged : Obligations.StubWritesAreLogged := by
  intro s v hs
  exact ⟨writes_of_busWrite hs rfl, writes_of_busWrite hs rfl, writes_of_busWrite hs rfl,
    writes_of_busWrite hs rfl, writes_of_busWrite hs rfl⟩

/-- Settles O23: the arms of the 57 writes differ in their offset only. -/
theorem mibWordWritesAreLogged : Obligations.MibWordWritesAreLogged := by
  intro p hp s v hs
  exact writes_of_busWrite hs (exec_of_mem_mibWriteOps hp v s)

/-- Settles O24, by what ECR stores without the reset. -/
theorem ecrWriteWithoutReset : Obligations.EcrWriteWithoutReset := by
  intro s v hs hv
  exact writes_of_busWrite hs (congrArg s.busWrite (s.ecrWrite_of_no_reset v hv))

/-- Settles O34, by the one formula of the re-arm. -/
theorem rdarWriteRearms : Obligations.RdarWriteRearms := by
  intro s v hs
  exact writes_of_busWrite hs (congrArg s.busWrite s.rearm_eq)

end Sys2Proof.Machine
end

section
/-! SUPPORT. The descriptor codec by the bytes of a slot: a span stored is read back, and a word or
a descriptor is read exactly where its bytes stand (20_memory.md R61, 41_descriptor_codec.md R171 to
R173). -/

namespace Sys2Proof

/-! ### Words joined of parts -/

theorem append_inj_iff {m n : Nat} {hi hi' : BitVec m} {lo lo' : BitVec n} :
    hi ++ lo = hi' ++ lo' ↔ hi = hi' ∧ lo = lo' := by
  constructor
  case mp =>
    intro h
    have hleft := congrArg (BitVec.extractLsb' n m) h
    have hright := congrArg (BitVec.extractLsb' 0 n) h
    rw [BitVec.extractLsb'_append_eq_left, BitVec.extractLsb'_append_eq_left] at hleft
    rw [BitVec.extractLsb'_append_eq_right, BitVec.extractLsb'_append_eq_right] at hright
    exact ⟨hleft, hright⟩
  case mpr =>
    rintro ⟨rfl, rfl⟩
    rfl

/-- A field of `w` is joined of its two parts. -/
theorem extractLsb'_eq_append_iff {k m n start : Nat} {hi : BitVec m} {lo : BitVec n}
    {w : BitVec k} :
    w.extractLsb' start (m + n) = hi ++ lo ↔
      w.extractLsb' (start + n) m = hi ∧ w.extractLsb' start n = lo := by
  rw [← BitVec.extractLsb'_append_extractLsb'_eq_extractLsb' rfl, append_inj_iff]

theorem eq_append_halves_iff {w : Word} {hi lo : Half} :
    w = hi ++ lo ↔ w.extractLsb' 16 16 = hi ∧ w.extractLsb' 0 16 = lo := by
  calc w = hi ++ lo
      ↔ w.extractLsb' 0 32 = hi ++ lo := by rw [BitVec.extractLsb'_eq_self]
    _ ↔ w.extractLsb' 16 16 = hi ∧ w.extractLsb' 0 16 = lo :=
        extractLsb'_eq_append_iff (m := 16) (n := 16)

theorem eq_append_bytes_iff {w : Word} {b3 b2 b1 b0 : Byte} :
    w = b3 ++ b2 ++ b1 ++ b0 ↔
      ((w.extractLsb' 24 8 = b3 ∧ w.extractLsb' 16 8 = b2) ∧ w.extractLsb' 8 8 = b1) ∧
        w.extractLsb' 0 8 = b0 := by
  calc w = b3 ++ b2 ++ b1 ++ b0
      ↔ w.extractLsb' 0 32 = b3 ++ b2 ++ b1 ++ b0 := by rw [BitVec.extractLsb'_eq_self]
    _ ↔ w.extractLsb' 8 24 = b3 ++ b2 ++ b1 ∧ w.extractLsb' 0 8 = b0 :=
        extractLsb'_eq_append_iff (m := 24) (n := 8)
    _ ↔ (w.extractLsb' 16 16 = b3 ++ b2 ∧ w.extractLsb' 8 8 = b1) ∧ w.extractLsb' 0 8 = b0 :=
        and_congr_left' (extractLsb'_eq_append_iff (m := 16) (n := 8))
    _ ↔ _ := and_congr_left' (and_congr_left' (extractLsb'_eq_append_iff (m := 8) (n := 8)))

end Sys2Proof

namespace Sys2Proof.Machine

variable {s : State} {a : Word}

/-! ### Spans read and stored -/

/-- The bytes stored in a span are those read back from it. -/
theorem State.readBytes_writeBytes_same (hm : s.mem.wf = true) (a : Word) {bs : List Byte}
    (hn : bs.length ≤ 4294967296) : (s.writeBytes a bs).readBytes a bs.length = bs := by
  apply List.ext_getElem (State.length_readBytes _ _ _)
  intro i _ hi
  rw [State.getElem_readBytes _ _ hi, State.readByte_writeBytes_inside s hm a bs hn hi]

/-- An address of a span is its start and a number below its length further. -/
theorem InSpan.exists_offset {n : Nat} {x : Word} (h : InSpan a n x) :
    ∃ i < n, x = a + BitVec.ofNat 32 i :=
  ⟨(x - a).toNat, h, by
    rw [BitVec.ofNat_toNat, BitVec.setWidth_eq, BitVec.add_comm, BitVec.sub_add_cancel]⟩

/-- Storing the bytes read from a span leaves every byte as it was. -/
theorem State.readByte_writeBytes_readBytes (hm : s.mem.wf = true) (a : Word) {n : Nat}
    (hn : n ≤ 4294967296) (x : Word) :
    (s.writeBytes a (s.readBytes a n)).readByte x = s.readByte x := by
  have hlen := s.length_readBytes a n
  by_cases hx : InSpan a n x
  · obtain ⟨i, hi, rfl⟩ := hx.exists_offset
    rw [State.readByte_writeBytes_inside s hm a _ (by rwa [hlen]) (by rwa [hlen]),
      State.getElem_readBytes s a hi]
  · exact State.readByte_writeBytes_outside s a _ (by rwa [hlen])

/-! ### Words (R173) -/

/-- `ENC32` and `DEC32` are inverse to each other, in either byte order. -/
theorem enc32_eq_iff {e : Endian} {w : Word} {b0 b1 b2 b3 : Byte} :
    enc32 e w = [b0, b1, b2, b3] ↔ w = dec32 e b0 b1 b2 b3 := by
  cases e with
  | big =>
    rw [dec32, eq_append_bytes_iff]
    simp [enc32, and_assoc]
  | little =>
    rw [dec32, eq_append_bytes_iff]
    simp [enc32, and_comm]

/-- A word reads as `w` exactly where the four bytes are those of `w`. -/
theorem State.readWord_eq_iff {w : Word} :
    s.readWord a = w ↔ s.readBytes a 4 = enc32 s.params.devEndian w := by
  have hbytes : s.readBytes a 4 =
      [s.readByte a, s.readByte (a + 1), s.readByte (a + 2), s.readByte (a + 3)] := by
    simp [State.readBytes, BitVec.add_assoc]
  rw [hbytes, eq_comm, eq_comm (b := enc32 _ _), enc32_eq_iff, State.readWord]

/-! ### Descriptors (R171, R172) -/

/-- The bytes of a slot that holds the descriptor. -/
def slotBytes (e : Endian) (d : Desc) : List Byte :=
  enc32 e (d.flags ++ d.length) ++ enc32 e d.buffer

theorem State.encodeDesc_eq_writeBytes (s : State) (d : Desc) (a : Word) :
    s.encodeDesc d a = s.writeBytes a (slotBytes s.params.devEndian d) := rfl

theorem State.decodeDesc_eq_iff_readWord {d : Desc} :
    s.decodeDesc a = d ↔ s.readWord a = d.flags ++ d.length ∧ s.readWord (a + 4) = d.buffer := by
  obtain ⟨flags, length, buffer⟩ := d
  rw [eq_append_halves_iff, and_assoc, State.decodeDesc, Desc.mk.injEq]

/-- A slot decodes to `d` exactly where its 8 bytes are those of `d`. -/
theorem State.decodeDesc_eq_iff {d : Desc} :
    s.decodeDesc a = d ↔ s.readBytes a 8 = slotBytes s.params.devEndian d := by
  have hsplit : s.readBytes a 8 = s.readBytes a 4 ++ s.readBytes (a + 4) 4 := by
    simp [State.readBytes, BitVec.add_assoc]
  rw [State.decodeDesc_eq_iff_readWord, State.readWord_eq_iff, State.readWord_eq_iff, hsplit,
    slotBytes]
  constructor
  case mp =>
    rintro ⟨hword, hbuffer⟩
    rw [hword, hbuffer]
  case mpr => exact fun h => List.append_inj h (by simp)

end Sys2Proof.Machine
end

section
/-! The statement about the descriptor codec (41_descriptor_codec.md R175). -/

namespace Sys2Proof.Machine

/-- Settles O33: the slot just encoded holds the descriptor's bytes, and the descriptor just decoded
has the slot's bytes. -/
theorem descriptorRoundTrip : Obligations.DescriptorRoundTrip := by
  intro s d a hm
  constructor
  case left =>
    have hlen : (slotBytes s.params.devEndian d).length = 8 := length_slotBytes _ d
    have hread := State.readBytes_writeBytes_same hm a (by rw [hlen]; decide)
    rw [hlen] at hread
    exact State.decodeDesc_eq_iff.mpr hread
  case right =>
    intro x
    have hbytes : s.readBytes a 8 = slotBytes s.params.devEndian (s.decodeDesc a) :=
      State.decodeDesc_eq_iff.mp rfl
    rw [State.encodeDesc_eq_writeBytes, ← hbytes]
    exact State.readByte_writeBytes_readBytes hm a (by decide) x

end Sys2Proof.Machine
end

section
/-! SUPPORT. The ready bit in guest memory: it is bit 7 of one byte of its slot, and handing a slot
back clears that bit and changes no other bit of memory (41_descriptor_codec.md R176, 42_transmit.md
R186). -/

namespace Sys2Proof.Machine

variable {s : State} {a : Word}

/-! ### The byte of the ready bit -/

/-- How far into a slot its `flagByte` stands. -/
def flagOffset : Endian → Nat
  | .big => 0
  | .little => 3

theorem flagOffset_lt (e : Endian) : flagOffset e < 8 := by
  cases e <;> decide

theorem flagByte_eq_add (e : Endian) (a : Word) :
    flagByte e a = a + BitVec.ofNat 32 (flagOffset e) := by
  cases e with
  | big => exact (BitVec.add_zero a).symm
  | little => rfl

/-- Two numbers of bytes into a slot that lead to one address are one number. -/
theorem add_ofNat_inj {i j : Nat} (hi : i < 8) (hj : j < 8) :
    a + BitVec.ofNat 32 i = a + BitVec.ofNat 32 j ↔ i = j := by
  rw [BitVec.add_right_inj, ← BitVec.toNat_inj, BitVec.toNat_ofNat, BitVec.toNat_ofNat]
  omega

theorem inSpan_add_ofNat (a : Word) {n i : Nat} (hi : i < n) :
    InSpan a n (a + BitVec.ofNat 32 i) := by
  rw [InSpan, BitVec.add_comm, BitVec.add_sub_cancel, BitVec.toNat_ofNat]
  exact (Nat.mod_le _ _).trans_lt hi

theorem inSpan_flagByte (e : Endian) (a : Word) : InSpan a 8 (flagByte e a) := by
  rw [flagByte_eq_add]
  exact inSpan_add_ofNat a (flagOffset_lt e)

theorem flagByte_injective (e : Endian) : Function.Injective (flagByte e) := by
  intro a b h
  rw [flagByte_eq_add, flagByte_eq_add] at h
  exact (BitVec.add_left_inj _).mp h

/-- Bits 15:8 of the flags stand in the slot's `flagByte`. -/
theorem State.flags_high_byte (s : State) (a : Word) :
    (s.decodeDesc a).flags.extractLsb' 8 8 = s.readByte (flagByte s.params.devEndian a) := by
  have hword : (s.readWord a).extractLsb' 24 8 = s.readByte (flagByte s.params.devEndian a) := by
    unfold State.readWord flagByte
    cases s.params.devEndian <;> exact (eq_append_bytes_iff.mp rfl).1.1.1
  rw [← hword, (State.decodeDesc_eq_iff_readWord.mp rfl).1,
    BitVec.extractLsb'_append_eq_of_le (by decide)]

theorem State.flags_getLsbD_high (s : State) (a : Word) {i : Nat} (hi : i < 8) :
    (s.decodeDesc a).flags.getLsbD (8 + i) =
      (s.readByte (flagByte s.params.devEndian a)).getLsbD i := by
  rw [← s.flags_high_byte a, BitVec.getLsbD_extractLsb', decide_eq_true hi, Bool.true_and]

theorem State.owned_decodeDesc (s : State) (a : Word) :
    (s.decodeDesc a).owned = (s.readByte (flagByte s.params.devEndian a)).getLsbD 7 := by
  rw [Desc.owned_eq_getLsbD, ← s.flags_getLsbD_high a (by decide : 7 < 8)]

/-- The wrap bit is bit 13 of the flags (41_descriptor_codec.md R176). -/
theorem Desc.wrap_eq_getLsbD (d : Desc) : d.wrap = d.flags.getLsbD 13 := by
  have hbit : d.flags &&& 0x2000 = if d.flags.getLsbD 13 then 0x2000 else 0 :=
    BitVec.and_twoPow d.flags 13
  rw [Desc.wrap, hbit]
  cases d.flags.getLsbD 13 <;> rfl

theorem State.wrap_decodeDesc (s : State) (a : Word) :
    (s.decodeDesc a).wrap = (s.readByte (flagByte s.params.devEndian a)).getLsbD 5 := by
  rw [Desc.wrap_eq_getLsbD, ← s.flags_getLsbD_high a (by decide : 5 < 8)]

theorem readyBit_clear (b : Byte) : (b &&& 0x7F).getLsbD 7 = false := by
  rw [BitVec.getLsbD_and]
  exact Bool.and_false _

theorem wrapBit_kept (b : Byte) : (b &&& 0x7F).getLsbD 5 = b.getLsbD 5 := by
  rw [BitVec.getLsbD_and]
  exact Bool.and_true _

/-! ### The descriptor handed back (42_transmit.md R186) -/

theorem Desc.release_eq (d : Desc) : d.release = { d with flags := d.flags &&& 0x7FFF } := rfl

theorem Desc.wrap_release (d : Desc) : d.release.wrap = d.wrap := by
  rw [Desc.wrap_eq_getLsbD, Desc.wrap_eq_getLsbD, Desc.release_eq, BitVec.getLsbD_and]
  exact Bool.and_true _

theorem Desc.next_release (d : Desc) (addr base : Word) :
    d.release.next addr base = d.next addr base := by
  rw [Desc.next, Desc.next, d.wrap_release]

/-- In the bytes of a slot, the release is bit 7 of one byte cleared. -/
theorem slotBytes_release (e : Endian) (d : Desc) :
    slotBytes e d.release = (slotBytes e d).modify (flagOffset e) (· &&& 0x7F) := by
  have high : ((d.flags &&& 0x7FFF#16) ++ d.length).extractLsb' 24 8 =
      (d.flags ++ d.length).extractLsb' 24 8 &&& 0x7F#8 := by
    rw [BitVec.extractLsb'_append_eq_of_le (by decide),
      BitVec.extractLsb'_append_eq_of_le (by decide), BitVec.extractLsb'_and]
    rfl
  have low : ((d.flags &&& 0x7FFF#16) ++ d.length).extractLsb' 16 8 =
      (d.flags ++ d.length).extractLsb' 16 8 := by
    rw [BitVec.extractLsb'_append_eq_of_le (by decide),
      BitVec.extractLsb'_append_eq_of_le (by decide), BitVec.extractLsb'_and]
    exact BitVec.and_allOnes
  have len (start : Nat) (h : start + 8 ≤ 16) (f : Half) :
      (f ++ d.length).extractLsb' start 8 = d.length.extractLsb' start 8 :=
    BitVec.extractLsb'_append_eq_of_add_le h
  cases e with
  | big => simp [slotBytes, enc32, flagOffset, Desc.release_eq, high, low, len]
  | little => simp [slotBytes, enc32, flagOffset, Desc.release_eq, high, low, len]

/-- The slot at `a` handed back: the ready bit there is cleared, and no other bit of memory changes,
whatever overlaps the slot. -/
theorem State.readByte_encodeDesc_release (hm : s.mem.wf = true) (a x : Word) :
    (s.encodeDesc (s.decodeDesc a).release a).readByte x =
      if x = flagByte s.params.devEndian a then s.readByte x &&& 0x7F else s.readByte x := by
  have hbytes : slotBytes s.params.devEndian (s.decodeDesc a) = s.readBytes a 8 :=
    (State.decodeDesc_eq_iff.mp rfl).symm
  by_cases hx : InSpan a 8 x
  · obtain ⟨i, hi, rfl⟩ := hx.exists_offset
    have hlen : (slotBytes s.params.devEndian (s.decodeDesc a).release).length = 8 :=
      length_slotBytes _ _
    rw [State.encodeDesc_eq_writeBytes,
      State.readByte_writeBytes_inside s hm a _ (by rw [hlen]; decide) (by rwa [hlen])]
    simp only [slotBytes_release, hbytes, List.getElem_modify, State.getElem_readBytes s a hi,
      flagByte_eq_add, add_ofNat_inj hi (flagOffset_lt _), eq_comm]
  · have hne : x ≠ flagByte s.params.devEndian a := fun h => hx (h ▸ inSpan_flagByte _ a)
    rw [State.readByte_encodeDesc_outside s _ a hx, if_neg hne]

end Sys2Proof.Machine
end

section
/-! SUPPORT. One visit of a transmit slot, and the pass as an induction: it stops at its bound or at
a slot that is not ready, and else visits the slot and goes on from the next (42_transmit.md R182 to
R190). -/

namespace Sys2Proof.Machine

variable {s t : State} {addr : Word} {acc : List Byte}

/-! ### A descriptor read from two states -/

/-- A slot decodes by its bytes and the byte order alone. -/
theorem State.decodeDesc_congr (a : Word) (hp : t.params = s.params)
    (h : ∀ x, InSpan a 8 x → t.readByte x = s.readByte x) : t.decodeDesc a = s.decodeDesc a := by
  have hbytes : t.readBytes a 8 = s.readBytes a 8 :=
    State.readBytes_congr a 8 fun i hi => h _ (inSpan_add_ofNat a hi)
  rw [State.decodeDesc_eq_iff, hp, hbytes]
  exact State.decodeDesc_eq_iff.mp rfl

theorem State.decodeDesc_of_mem_eq (hp : t.params = s.params) (hm : t.mem = s.mem) (a : Word) :
    t.decodeDesc a = s.decodeDesc a :=
  State.decodeDesc_congr a hp fun x _ => congrArg (·.get x.toNat) hm

/-! ### One visit -/

/-- The address the pass goes on to from a slot (42_transmit.md R187). -/
def State.txNext (s : State) (addr : Word) : Word := (s.decodeDesc addr).next addr s.etdsr

theorem State.txNext_eq (s : State) (addr : Word) :
    s.txNext addr = if (s.decodeDesc addr).wrap then s.etdsr else addr + 8 := rfl

@[simp] theorem State.txSlot_params (s : State) (addr : Word) (d : Desc) (acc : List Byte) :
    (s.txSlot addr d acc).2.params = s.params := by
  rw [State.txSlot_frame]

@[simp] theorem State.txSlot_etdsr (s : State) (addr : Word) (d : Desc) (acc : List Byte) :
    (s.txSlot addr d acc).2.etdsr = s.etdsr := by
  rw [State.txSlot_frame]

/-- A visit stores the slot it hands back and nothing else: gathering and sending store nothing. -/
theorem State.txSlot_mem (s : State) (addr : Word) (d : Desc) (acc : List Byte) :
    (s.txSlot addr d acc).2.mem = (s.encodeDesc d.release addr).mem := by
  unfold State.txSlot State.txGather State.txEndOfFrame
  split <;> split <;> rfl

theorem State.readByte_txSlot (s : State) (addr : Word) (d : Desc) (acc : List Byte) (x : Word) :
    (s.txSlot addr d acc).2.readByte x = (s.encodeDesc d.release addr).readByte x :=
  congrArg (·.get x.toNat) (s.txSlot_mem addr d acc)

theorem State.readByte_txSlot_outside (s : State) (d : Desc) (acc : List Byte) {x : Word}
    (h : ¬ InSpan addr 8 x) : (s.txSlot addr d acc).2.readByte x = s.readByte x := by
  rw [State.readByte_txSlot, State.readByte_encodeDesc_outside s _ _ h]

/-- A visit clears the ready bit of its slot and changes no other bit of memory. -/
theorem State.readByte_txSlot_of_wf (hm : s.mem.wf = true) (addr : Word) (acc : List Byte)
    (x : Word) :
    (s.txSlot addr (s.decodeDesc addr) acc).2.readByte x =
      if x = flagByte s.params.devEndian addr then s.readByte x &&& 0x7F else s.readByte x := by
  rw [State.readByte_txSlot, State.readByte_encodeDesc_release hm]

/-! ### The pass -/

theorem State.txLoop_of_owned (n : Nat) (acc : List Byte) (h : (s.decodeDesc addr).owned = true) :
    State.txLoop (n + 1) addr acc s =
      State.txLoop n (s.txNext addr) (s.txSlot addr (s.decodeDesc addr) acc).1
        (s.txSlot addr (s.decodeDesc addr) acc).2 := by
  rw [State.txLoop, if_pos h]
  dsimp only
  rw [Desc.next_release, State.txSlot_etdsr, State.txNext]

theorem txSlots_of_owned (n : Nat) (acc : List Byte) (h : (s.decodeDesc addr).owned = true) :
    txSlots (n + 1) addr acc s =
      addr :: txSlots n (s.txNext addr) (s.txSlot addr (s.decodeDesc addr) acc).1
        (s.txSlot addr (s.decodeDesc addr) acc).2 := by
  rw [txSlots, if_pos h]
  dsimp only
  rw [Desc.next_release, State.txSlot_etdsr, State.txNext]

theorem txSlots_of_not_owned (n : Nat) (acc : List Byte) (h : (s.decodeDesc addr).owned = false) :
    txSlots n addr acc s = [] := by
  cases n with
  | zero => rfl
  | succ n => simp [txSlots, h]

/-- The induction of every statement about a pass: at its bound, at a slot that is not ready, and
from a ready slot on to the next. -/
theorem txPass_induction {motive : Nat → Word → List Byte → State → Prop}
    (bound : ∀ addr acc s, motive 0 addr acc s)
    (stop : ∀ n addr acc s, (s.decodeDesc addr).owned = false → motive n addr acc s)
    (visit : ∀ n addr acc s, (s.decodeDesc addr).owned = true →
      motive n (s.txNext addr) (s.txSlot addr (s.decodeDesc addr) acc).1
        (s.txSlot addr (s.decodeDesc addr) acc).2 → motive (n + 1) addr acc s)
    (n : Nat) (addr : Word) (acc : List Byte) (s : State) : motive n addr acc s := by
  induction n generalizing addr acc s with
  | zero => exact bound addr acc s
  | succ n ih =>
    cases ho : (s.decodeDesc addr).owned with
    | false => exact stop _ _ _ _ ho
    | true => exact visit _ _ _ _ ho (ih _ _ _)

theorem State.txLoop_params (n : Nat) (addr : Word) (acc : List Byte) (s : State) :
    (State.txLoop n addr acc s).2.params = s.params :=
  (s.kept_txLoop n addr acc).params

theorem State.txLimit_of_some {m : Nat} (h : s.params.maxDescPerPass = some m) : s.txLimit = m := by
  rw [State.txLimit, h]

theorem State.txLimit_of_none (h : s.params.maxDescPerPass = none) : s.txLimit = 4294967297 := by
  rw [State.txLimit, h]
  rfl

/-- A pass that has ended at a slot not ready ends there under every larger bound. -/
theorem State.txLoop_add_of_not_owned (n m : Nat) (addr : Word) (acc : List Byte) (s : State)
    (h : ((State.txLoop n addr acc s).2.decodeDesc (State.txLoop n addr acc s).1).owned = false) :
    State.txLoop (n + m) addr acc s = State.txLoop n addr acc s := by
  induction n, addr, acc, s using txPass_induction with
  | bound addr acc s => exact s.txLoop_of_not_owned _ acc h
  | stop n addr acc s ho => rw [s.txLoop_of_not_owned _ acc ho, s.txLoop_of_not_owned _ acc ho]
  | visit n addr acc s ho ih =>
    rw [State.txLoop_of_owned n acc ho] at h
    rw [Nat.add_right_comm, State.txLoop_of_owned _ acc ho, State.txLoop_of_owned n acc ho, ih h]

/-! ### What the pass does to memory -/

/-- A pass leaves every byte outside the slots it hands back alone. -/
theorem State.readByte_txLoop_outside (n : Nat) (addr : Word) (acc : List Byte) (s : State)
    {x : Word} (h : ∀ a ∈ txSlots n addr acc s, ¬ InSpan a 8 x) :
    (State.txLoop n addr acc s).2.readByte x = s.readByte x := by
  induction n, addr, acc, s using txPass_induction with
  | bound addr acc s => rfl
  | stop n addr acc s ho => rw [s.txLoop_of_not_owned n acc ho]
  | visit n addr acc s ho ih =>
    rw [txSlots_of_owned n acc ho] at h
    obtain ⟨hfirst, hrest⟩ := List.forall_mem_cons.mp h
    rw [State.txLoop_of_owned n acc ho, ih hrest, State.readByte_txSlot_outside s _ _ hfirst]

/-- A pass clears the ready bits of the slots it hands back and changes no other bit of memory. -/
theorem State.readByte_txLoop (n : Nat) (addr : Word) (acc : List Byte) (s : State)
    (hm : s.mem.wf = true) (x : Word) :
    (State.txLoop n addr acc s).2.readByte x =
      if x ∈ (txSlots n addr acc s).map (flagByte s.params.devEndian) then s.readByte x &&& 0x7F
      else s.readByte x := by
  induction n, addr, acc, s using txPass_induction with
  | bound addr acc s => simp [State.txLoop, txSlots]
  | stop n addr acc s ho => simp [s.txLoop_of_not_owned n acc ho, txSlots_of_not_owned n acc ho]
  | visit n addr acc s ho ih =>
    rw [State.txLoop_of_owned n acc ho, txSlots_of_owned n acc ho, ih (State.wf_txSlot hm _ _ _),
      State.readByte_txSlot_of_wf hm, State.txSlot_params, List.map_cons]
    by_cases hx : x = flagByte s.params.devEndian addr
    · simp [hx, BitVec.and_assoc]
    · simp [hx]

/-- A pass leaves the slots it hands back not ready, and every other slot as ready as it was. -/
theorem State.owned_txLoop (n : Nat) (addr : Word) (acc : List Byte) (s : State)
    (hm : s.mem.wf = true) (a : Word) :
    ((State.txLoop n addr acc s).2.decodeDesc a).owned =
      if a ∈ txSlots n addr acc s then false else (s.decodeDesc a).owned := by
  rw [State.owned_decodeDesc, State.txLoop_params, State.readByte_txLoop n addr acc s hm,
    State.owned_decodeDesc]
  have hmem := List.mem_map_of_injective (flagByte_injective s.params.devEndian) (a := a)
    (l := txSlots n addr acc s)
  by_cases ha : a ∈ txSlots n addr acc s
  · rw [if_pos ha, if_pos (hmem.mpr ha), readyBit_clear]
  · rw [if_neg ha, if_neg (hmem.not.mpr ha)]

/-! ### No slot is handed back twice (42_transmit.md R188) -/

/-- A visit leaves its own slot not ready, and every other slot as ready as it was. -/
theorem State.owned_txSlot (hm : s.mem.wf = true) (addr : Word) (acc : List Byte) (a : Word) :
    ((s.txSlot addr (s.decodeDesc addr) acc).2.decodeDesc a).owned =
      if a = addr then false else (s.decodeDesc a).owned := by
  rw [State.owned_decodeDesc, State.txSlot_params, State.readByte_txSlot_of_wf hm,
    State.owned_decodeDesc]
  by_cases ha : a = addr
  · rw [if_pos ha, if_pos (congrArg _ ha), readyBit_clear]
  · rw [if_neg ha, if_neg ((flagByte_injective _).ne ha)]

/-- A visit leaves the wrap bit of every slot as it is. -/
theorem State.wrap_txSlot (hm : s.mem.wf = true) (addr : Word) (acc : List Byte) (a : Word) :
    ((s.txSlot addr (s.decodeDesc addr) acc).2.decodeDesc a).wrap = (s.decodeDesc a).wrap := by
  rw [State.wrap_decodeDesc, State.txSlot_params, State.readByte_txSlot_of_wf hm,
    State.wrap_decodeDesc]
  split
  case isTrue => exact wrapBit_kept _
  case isFalse => rfl

/-- The slots a pass hands back were ready before it. -/
theorem owned_of_mem_txSlots (n : Nat) (addr : Word) (acc : List Byte) (s : State)
    (hm : s.mem.wf = true) {a : Word} (h : a ∈ txSlots n addr acc s) :
    (s.decodeDesc a).owned = true := by
  induction n, addr, acc, s using txPass_induction with
  | bound addr acc s => cases h
  | stop n addr acc s ho => rw [txSlots_of_not_owned n acc ho] at h; cases h
  | visit n addr acc s ho ih =>
    rw [txSlots_of_owned n acc ho] at h
    rcases List.mem_cons.mp h with rfl | hrest
    · exact ho
    · have hready := ih (State.wf_txSlot hm _ _ _) hrest
      rw [State.owned_txSlot hm] at hready
      split at hready
      case isTrue => cases hready
      case isFalse => exact hready

theorem nodup_txSlots (n : Nat) (addr : Word) (acc : List Byte) (s : State)
    (hm : s.mem.wf = true) : (txSlots n addr acc s).Nodup := by
  induction n, addr, acc, s using txPass_induction with
  | bound addr acc s => exact List.nodup_nil
  | stop n addr acc s ho => rw [txSlots_of_not_owned n acc ho]; exact List.nodup_nil
  | visit n addr acc s ho ih =>
    have hwf := State.wf_txSlot hm addr (s.decodeDesc addr) acc
    rw [txSlots_of_owned n acc ho, List.nodup_cons]
    refine ⟨fun hagain => ?_, ih hwf⟩
    have hready := owned_of_mem_txSlots _ _ _ _ hwf hagain
    rw [State.owned_txSlot hm, if_pos rfl] at hready
    cases hready

theorem card_word : Fintype.card Word = 4294967296 :=
  (Fintype.card_congr BitVec.equivFin.toEquiv).trans (Fintype.card_fin _)

/-- So a pass hands back at most as many slots as there are addresses. -/
theorem length_txSlots_le_card (n : Nat) (addr : Word) (acc : List Byte) (s : State)
    (hm : s.mem.wf = true) : (txSlots n addr acc s).length ≤ 4294967296 :=
  (nodup_txSlots n addr acc s hm).length_le_card.trans_eq card_word

/-! ### Where the pass ends (R188, R189) -/

theorem length_txSlots_le (n : Nat) (addr : Word) (acc : List Byte) (s : State) :
    (txSlots n addr acc s).length ≤ n := by
  induction n, addr, acc, s using txPass_induction with
  | bound addr acc s => exact Nat.le_refl 0
  | stop n addr acc s ho => rw [txSlots_of_not_owned n acc ho]; exact Nat.zero_le n
  | visit n addr acc s ho ih =>
    rw [txSlots_of_owned n acc ho]
    exact Nat.succ_le_succ ih

/-- A pass ends at a slot that is not ready, or at its bound. -/
theorem State.txLoop_stops (n : Nat) (addr : Word) (acc : List Byte) (s : State) :
    ((State.txLoop n addr acc s).2.decodeDesc (State.txLoop n addr acc s).1).owned = false ∨
      (txSlots n addr acc s).length = n := by
  induction n, addr, acc, s using txPass_induction with
  | bound addr acc s => exact .inr rfl
  | stop n addr acc s ho => rw [s.txLoop_of_not_owned n acc ho]; exact .inl ho
  | visit n addr acc s ho ih =>
    rw [State.txLoop_of_owned n acc ho, txSlots_of_owned n acc ho]
    exact ih.imp_right (congrArg Nat.succ)

/-- A pass ends at the slot after the last one it hands back, by the wrap bit that slot has
before the pass. -/
theorem State.txLoop_cursor (n : Nat) (addr : Word) (acc : List Byte) (s : State)
    (hm : s.mem.wf = true) :
    (State.txLoop n addr acc s).1 = ((txSlots n addr acc s).getLast?.map s.txNext).getD addr := by
  induction n, addr, acc, s using txPass_induction with
  | bound addr acc s => rfl
  | stop n addr acc s ho => rw [s.txLoop_of_not_owned n acc ho, txSlots_of_not_owned n acc ho]; rfl
  | visit n addr acc s ho ih =>
    have hnext : (s.txSlot addr (s.decodeDesc addr) acc).2.txNext = s.txNext := by
      funext a
      rw [State.txNext_eq, State.wrap_txSlot hm, State.txSlot_etdsr, State.txNext_eq]
    rw [State.txLoop_of_owned n acc ho, txSlots_of_owned n acc ho,
      ih (State.wf_txSlot hm _ _ _), hnext, List.getLast?_cons]
    cases (txSlots n (s.txNext addr) (s.txSlot addr (s.decodeDesc addr) acc).1
      (s.txSlot addr (s.decodeDesc addr) acc).2).getLast? <;> rfl

end Sys2Proof.Machine
end

section
/-! SUPPORT. The write of TDAR as a whole: behind its gate it is the pass, and then the `UPDATE()`;
what a pass adds to EIR and to the frames sent (40_register_file.md R109, 42_transmit.md R183 to
R185, R189). -/

namespace Sys2Proof.Machine

variable {s t u : State} {v : Word}

/-! ### The gate of TDAR (40_register_file.md R109) -/

/-- A write of `v` to TDAR starts a pass. -/
def TxGate (s : State) (v : Word) : Prop :=
  s.ecr.getLsbD 1 = true ∧ (s.params.tdarRequiresBit24 = true → v.getLsbD 24 = true)

theorem txGate_iff :
    TxGate s v ↔ (s.etherEn && (!s.params.tdarRequiresBit24 || v.getLsbD 24)) = true := by
  rw [TxGate, State.etherEn]
  cases s.params.tdarRequiresBit24 <;> simp

theorem State.transmitRequest_of_gate (h : TxGate s v) : s.transmitRequest v = s.txPass :=
  if_pos (txGate_iff.mp h)

theorem State.transmitRequest_of_not_gate (h : ¬ TxGate s v) : s.transmitRequest v = s :=
  if_neg (txGate_iff.not.mp h)

/-! ### The write -/

/-- In a live session a write of TDAR completes. -/
theorem writes_tdarWr (hs : Live s) (v : Word) : Writes (.tdarWr v) s (s.transmitRequest v) := by
  have hframe := s.transmitRequest_frame v
  exact writes_of_busWrite hs rfl (by rw [hframe]) (by rw [hframe]) (by rw [hframe])

/-- A write that answers a next state answers the one that `Writes` names. -/
theorem Writes.eq_of_exec {i : Instr} (h : Writes i s u) (ht : exec i s = .next t) :
    AfterUpdate s t ∧ t = { u with answer := .none, irqState := t.irqState, lines := t.lines
                                   setLineCalls := t.setLineCalls } := by
  obtain ⟨t', ht', hafter, heq⟩ := h
  cases ht.symm.trans ht'
  exact ⟨hafter, heq⟩

theorem tdarWr_next (ht : exec (.tdarWr v) s = .next t) :
    AfterUpdate s t ∧
      t = { s.transmitRequest v with answer := .none, irqState := t.irqState, lines := t.lines
                                     setLineCalls := t.setLineCalls } :=
  (writes_tdarWr (effect_of_exec ht).1 v).eq_of_exec ht

/-- What a statement reads of the state after a write of TDAR with the gate open: the parameters it
began with, and what the pass left of its cursor, memory, EIR and `sent`. -/
structure AfterPass (s t : State) : Prop where
  params : t.params = s.params
  cursor : t.txCursor = (State.txLoop s.txLimit s.txCursor [] s).1
  mem : t.mem = (State.txLoop s.txLimit s.txCursor [] s).2.mem
  eir : t.eir = (State.txLoop s.txLimit s.txCursor [] s).2.eir
  sent : t.sent = (State.txLoop s.txLimit s.txCursor [] s).2.sent

theorem afterPass_of_tdarWr (hgate : TxGate s v) (ht : exec (.tdarWr v) s = .next t) :
    AfterPass s t := by
  have heq := (tdarWr_next ht).2
  rw [State.transmitRequest_of_gate hgate] at heq
  rw [heq]
  exact ⟨s.kept_txPass.params, rfl, rfl, rfl, rfl⟩

theorem AfterPass.readByte (h : AfterPass s t) (x : Word) :
    t.readByte x = (State.txLoop s.txLimit s.txCursor [] s).2.readByte x :=
  congrArg (·.get x.toNat) h.mem

theorem AfterPass.decodeDesc (h : AfterPass s t) (a : Word) :
    t.decodeDesc a = (State.txLoop s.txLimit s.txCursor [] s).2.decodeDesc a :=
  State.decodeDesc_of_mem_eq (h.params.trans (State.txLoop_params _ _ _ _).symm) h.mem a

/-! ### What a pass adds (42_transmit.md R183 to R185) -/

/-- EIR gains events among TXB, TXF and BABT, and `sent` frames within the cap. -/
structure TxGrows (s t : State) : Prop where
  eir : ∃ e, t.eir = s.eir ||| e ∧ e &&& ~~~0x2C000000 = 0
  sent : ∃ fs, t.sent = s.sent ++ fs ∧ ∀ f ∈ fs, f.length ≤ 2032

theorem and_not_or_self (a e : Word) : a &&& ~~~(a ||| e) = 0 := by
  rw [BitVec.not_or, ← BitVec.and_assoc, BitVec.and_not_self]
  exact BitVec.zero_and

theorem TxGrows.refl (s : State) : TxGrows s s :=
  ⟨⟨0, by simp, BitVec.zero_and⟩, ⟨[], by simp, by simp⟩⟩

theorem TxGrows.trans (h : TxGrows s t) (h' : TxGrows t u) : TxGrows s u := by
  obtain ⟨⟨e, heir, he⟩, ⟨fs, hsent, hfs⟩⟩ := h
  obtain ⟨⟨e', heir', he'⟩, ⟨fs', hsent', hfs'⟩⟩ := h'
  refine ⟨⟨e ||| e', ?_, or_and_not_eq_zero he he'⟩, ⟨fs ++ fs', ?_, ?_⟩⟩
  · rw [heir', heir, BitVec.or_assoc]
  · rw [hsent', hsent, List.append_assoc]
  · exact List.forall_mem_append.mpr ⟨hfs, hfs'⟩

theorem TxGrows.raise (h : TxGrows s t) {e : Word} (he : e &&& ~~~0x2C000000 = 0) :
    TxGrows s (t.raise e) :=
  h.trans ⟨⟨e, rfl, he⟩, (TxGrows.refl t).sent⟩

theorem TxGrows.send (h : TxGrows s t) {bs : List Byte} (hbs : bs.length ≤ 2032) :
    TxGrows s (t.send bs) :=
  h.trans ⟨(TxGrows.refl t).eir, ⟨[bs], rfl, List.forall_mem_singleton.mpr hbs⟩⟩

theorem TxGrows.txSlot (s : State) (addr : Word) (d : Desc) {acc : List Byte}
    (hacc : acc.length ≤ 2032) : TxGrows s (s.txSlot addr d acc).2 := by
  have hgather : TxGrows s (s.txGather d acc).2 := by
    unfold State.txGather
    split
    case isTrue => exact (TxGrows.refl s).raise (by decide)
    case isFalse => exact .refl s
  have hframe : TxGrows s ((s.txGather d acc).2.txEndOfFrame d (s.txGather d acc).1).2 := by
    unfold State.txEndOfFrame
    split
    case isTrue => exact (hgather.send (s.length_txGather_le d hacc)).raise (by decide)
    case isFalse => exact hgather
  have htxb := hframe.raise (e := txb) (by decide)
  exact ⟨htxb.eir, htxb.sent⟩

theorem TxGrows.txLoop (n : Nat) (addr : Word) (acc : List Byte) (s : State)
    (hacc : acc.length ≤ 2032) : TxGrows s (State.txLoop n addr acc s).2 := by
  induction n, addr, acc, s using txPass_induction with
  | bound addr acc s => exact .refl s
  | stop n addr acc s ho => rw [s.txLoop_of_not_owned n acc ho]; exact .refl s
  | visit n addr acc s ho ih =>
    rw [State.txLoop_of_owned n acc ho]
    exact (TxGrows.txSlot s addr _ hacc).trans (ih (State.length_txSlot_le s addr _ hacc))

theorem TxGrows.transmitRequest (s : State) (v : Word) : TxGrows s (s.transmitRequest v) := by
  by_cases hgate : TxGate s v
  · have hpass := TxGrows.txLoop s.txLimit s.txCursor [] s (Nat.zero_le _)
    rw [State.transmitRequest_of_gate hgate]
    exact ⟨hpass.eir, hpass.sent⟩
  · rw [State.transmitRequest_of_not_gate hgate]
    exact .refl s

/-- Outside the slots handed back a write of TDAR leaves every byte alone, and with the gate closed
everywhere. -/
theorem State.readByte_transmitRequest_outside (s : State) (v : Word) {x : Word}
    (h : TxGate s v → ∀ a ∈ txSlots s.txLimit s.txCursor [] s, ¬ InSpan a 8 x) :
    (s.transmitRequest v).readByte x = s.readByte x := by
  by_cases hgate : TxGate s v
  · rw [State.transmitRequest_of_gate hgate]
    exact State.readByte_txLoop_outside _ _ _ _ (h hgate)
  · rw [State.transmitRequest_of_not_gate hgate]

end Sys2Proof.Machine
end


section
/-! SUPPORT. What a transmit slot adds to the frame under way: the bytes held are those gathered,
cut to 2032, a frame ends at its L, and the events follow (42_transmit.md R183 to R185, R189). -/

namespace Sys2Proof.Machine

variable {s : State} {addr : Word} {d : Desc} {acc bs : List Byte}

/-! ### Bytes gathered, slot by slot -/

theorem gathered_singleton (acc : List Byte) (last : Bool) (bs : List Byte) :
    gathered acc [(last, bs)] = if last then ([acc ++ bs], []) else ([], acc ++ bs) := by
  cases last <;> rfl

/-- The slots after the first gather on from the bytes it leaves open. -/
theorem gathered_cons (acc : List Byte) (p : Bool × List Byte) (l : List (Bool × List Byte)) :
    gathered acc (p :: l) =
      ((gathered acc [p]).1 ++ (gathered (gathered acc [p]).2 l).1,
        (gathered (gathered acc [p]).2 l).2) := by
  obtain ⟨last, bs⟩ := p
  cases last <;> rfl

/-- A frame among those gathered, sent or lost, is longer than the cap. -/
abbrev OverCap (g : List (List Byte) × List Byte) : Prop := ∃ f ∈ g.1 ++ [g.2], 2032 < f.length


theorem overCap_singleton (acc : List Byte) (last : Bool) (bs : List Byte) :
    OverCap (gathered acc [(last, bs)]) ↔ 2032 < (acc ++ bs).length := by
  cases last <;> simp [OverCap, gathered]

/-- A frame longer than the cap stays longer, whatever is gathered into it. -/
theorem overCap_of_open {acc : List Byte} (l : List (Bool × List Byte)) (h : 2032 < acc.length) :
    OverCap (gathered acc l) := by
  induction l generalizing acc with
  | nil => exact ⟨acc, List.mem_singleton_self acc, h⟩
  | cons p l ih =>
    obtain ⟨last, bs⟩ := p
    have hlong : 2032 < (acc ++ bs).length := by
      rw [List.length_append]
      omega
    cases last with
    | true => exact ⟨acc ++ bs, List.mem_cons_self, hlong⟩
    | false => exact ih hlong

theorem overCap_cons (acc : List Byte) (p : Bool × List Byte) (l : List (Bool × List Byte)) :
    OverCap (gathered acc (p :: l)) ↔
      OverCap (gathered acc [p]) ∨ OverCap (gathered (gathered acc [p]).2 l) := by
  rw [gathered_cons]
  constructor
  case mp =>
    rintro ⟨f, hf, hlong⟩
    rw [List.append_assoc, List.mem_append] at hf
    exact hf.imp (fun hfirst => ⟨f, List.mem_append_left _ hfirst, hlong⟩)
      fun hrest => ⟨f, hrest, hlong⟩
  case mpr =>
    have of_rest : OverCap (gathered (gathered acc [p]).2 l) →
        OverCap ((gathered acc [p]).1 ++ (gathered (gathered acc [p]).2 l).1,
          (gathered (gathered acc [p]).2 l).2) := by
      rintro ⟨f, hf, hlong⟩
      rw [OverCap, List.append_assoc]
      exact ⟨f, List.mem_append_right _ hf, hlong⟩
    rintro (⟨f, hf, hlong⟩ | hrest)
    · rcases List.mem_append.mp hf with hsent | hopen
      · rw [OverCap, List.append_assoc]
        exact ⟨f, List.mem_append_left _ hsent, hlong⟩
      · rw [List.mem_singleton] at hopen
        exact of_rest (overCap_of_open l (hopen ▸ hlong))
    · exact of_rest hrest

/-- The events of the frames gathered: TXF where one is sent, BABT where one is cut (R183, R184). -/
def txEvents (g : List (List Byte) × List Byte) : Word :=
  (if g.1 = [] then 0 else txf) ||| (if OverCap g then babt else 0)

theorem ite_or_eq_or_ite (p q : Prop) [Decidable p] [Decidable q] (e : Word) :
    (if p ∨ q then e else 0) = (if p then e else 0) ||| (if q then e else 0) := by
  by_cases hp : p <;> by_cases hq : q <;> simp [hp, hq]

theorem ite_append_eq_nil (fs gs : List (List Byte)) (e : Word) :
    (if fs ++ gs = [] then 0 else e) =
      (if fs = [] then 0 else e) ||| (if gs = [] then 0 else e) := by
  cases fs <;> cases gs <;> simp

theorem txEvents_singleton (acc : List Byte) (last : Bool) (bs : List Byte) :
    txEvents (gathered acc [(last, bs)]) =
      (if last then txf else 0) ||| (if 2032 < (acc ++ bs).length then babt else 0) := by
  simp only [txEvents, overCap_singleton]
  cases last <;> rfl

theorem txEvents_cons (acc : List Byte) (p : Bool × List Byte) (l : List (Bool × List Byte)) :
    txEvents (gathered acc (p :: l)) =
      txEvents (gathered acc [p]) ||| txEvents (gathered (gathered acc [p]).2 l) := by
  have hsent : (gathered acc (p :: l)).1 =
      (gathered acc [p]).1 ++ (gathered (gathered acc [p]).2 l).1 := by rw [gathered_cons]
  simp only [txEvents, hsent, ite_append_eq_nil, overCap_cons acc p l, ite_or_eq_or_ite]
  ac_rfl

/-- The frame still open adds no event to one that has its BABT. -/
theorem or_txEvents_open {acc : List Byte} {e : Word} (h : 2032 < acc.length → e ||| babt = e) :
    e ||| txEvents ([], acc) = e := by
  have hover : OverCap ([], acc) ↔ 2032 < acc.length := by simp [OverCap]
  simp only [txEvents, hover, if_true]
  by_cases hlong : 2032 < acc.length
  · rw [if_pos hlong]
    exact (congrArg _ BitVec.zero_or).trans (h hlong)
  · rw [if_neg hlong]
    exact BitVec.or_zero

theorem txEvents_or_babt {g : List (List Byte) × List Byte} (h : OverCap g) :
    txEvents g ||| babt = txEvents g := by
  rw [txEvents, if_pos h, BitVec.or_assoc]
  exact congrArg _ BitVec.or_self

/-! ### The visit -/

theorem State.take_readBytes (s : State) (a : Word) (n k : Nat) :
    (s.readBytes a n).take k = s.readBytes a (min k n) := by
  apply List.ext_getElem (by simp)
  intro i hi _
  rw [List.length_take, State.length_readBytes] at hi
  rw [List.getElem_take, State.getElem_readBytes s a (by omega), State.getElem_readBytes s a hi]

/-- The bytes held after a slot are those gathered with it, cut to the cap. -/
theorem State.txGather_bytes (s : State) (d : Desc) (acc : List Byte) :
    (s.txGather d (acc.take 2032)).1 =
      (acc ++ s.readBytes d.buffer d.length.toNat).take 2032 := by
  have hcut : (s.readBytes d.buffer d.length.toNat).take (2032 - acc.length) =
      s.readBytes d.buffer (min (2032 - acc.length) d.length.toNat) :=
    s.take_readBytes _ _ _
  rw [List.take_append, hcut]
  unfold State.txGather
  rw [List.length_take, Config.frameCap]
  split
  case isTrue hover =>
    have hlen : 2032 - min 2032 acc.length = min (2032 - acc.length) d.length.toNat := by omega
    rw [hlen]
  case isFalse hfits =>
    have hlen : d.length.toNat = min (2032 - acc.length) d.length.toNat := by omega
    rw [← hlen]

/-- BABT is set where the bytes gathered exceed the cap, or it was set when they first did. -/
theorem State.txGather_eir (s : State) (d : Desc) {acc : List Byte}
    (hbabt : 2032 < acc.length → s.eir ||| babt = s.eir) :
    (s.txGather d (acc.take 2032)).2.eir = s.eir |||
      (if 2032 < (acc ++ s.readBytes d.buffer d.length.toNat).length then babt else 0) := by
  unfold State.txGather
  rw [List.length_take, Config.frameCap, List.length_append, State.length_readBytes]
  by_cases hover : min 2032 acc.length + d.length.toNat > 2032
  · rw [if_pos hover, if_pos (by omega), State.raise_eir]
  · rw [if_neg hover]
    by_cases hlong : 2032 < acc.length + d.length.toNat
    · rw [if_pos hlong, hbabt (by omega)]
    · rw [if_neg hlong]
      exact BitVec.or_zero.symm

theorem State.txGather_sent (s : State) (d : Desc) (acc : List Byte) :
    (s.txGather d acc).2.sent = s.sent := by
  unfold State.txGather
  split <;> rfl

/-- The bytes a slot adds to the frame under way, with its L. -/
def State.txBytes (s : State) (d : Desc) : Bool × List Byte :=
  (d.last, s.readBytes d.buffer d.length.toNat)

theorem State.txSlot_bytes (s : State) (addr : Word) (d : Desc) (acc : List Byte) :
    (s.txSlot addr d (acc.take 2032)).1 = (gathered acc [s.txBytes d]).2.take 2032 := by
  rw [State.txSlot, State.txBytes, gathered_singleton]
  dsimp only
  rw [State.txEndOfFrame, s.txGather_bytes]
  cases d.last <;> rfl

theorem State.txSlot_sent (s : State) (addr : Word) (d : Desc) (acc : List Byte) :
    (s.txSlot addr d (acc.take 2032)).2.sent =
      s.sent ++ (gathered acc [s.txBytes d]).1.map (List.take 2032) := by
  rw [State.txSlot, State.txBytes, gathered_singleton]
  dsimp only
  rw [State.encodeDesc_sent, State.raise_sent, State.txEndOfFrame, s.txGather_bytes,
    ← s.txGather_sent d (acc.take 2032)]
  cases d.last with
  | true => rfl
  | false => exact (List.append_nil _).symm

theorem State.txSlot_eir (s : State) (addr : Word) (d : Desc) {acc : List Byte}
    (hbabt : 2032 < acc.length → s.eir ||| babt = s.eir) :
    (s.txSlot addr d (acc.take 2032)).2.eir =
      s.eir ||| txb ||| txEvents (gathered acc [s.txBytes d]) := by
  have hgather := s.txGather_eir d hbabt
  rw [State.txSlot, State.txBytes, txEvents_singleton]
  dsimp only
  rw [State.encodeDesc_eir, State.raise_eir, State.txEndOfFrame]
  cases d.last with
  | true =>
    simp only [if_true, State.raise_eir, State.send_eir, hgather]
    ac_rfl
  | false =>
    simp only [Bool.false_eq_true, if_false, hgather]
    ac_rfl

end Sys2Proof.Machine
end

section
/-! SUPPORT. A pass over ready slots in a row that do not overlap: it hands back each of them, and
sends what they gather (42_transmit.md R187, R190, R192). -/

namespace Sys2Proof.Machine

variable {s : State} {d : Desc} {ds : List Desc} {slot : Nat → Word}

/-! ### Ready slots in a row -/

/-- Ready slots in a row, each where the wrap bit of the one before puts it, no two overlapping and
no buffer inside a slot handed back before it is read. -/
structure ReadySlots (s : State) (ds : List Desc) (slot : Nat → Word) : Prop where
  decode : ∀ (k : Nat) (hk : k < ds.length), s.decodeDesc (slot k) = ds[k]
  owned : ∀ (k : Nat) (hk : k < ds.length), ds[k].owned = true
  next : ∀ (k : Nat) (hk : k < ds.length),
    slot (k + 1) = if ds[k].wrap then s.etdsr else slot k + 8
  apart : ∀ k < ds.length, ∀ j < ds.length, j ≠ k →
    ∀ x, InSpan (slot k) 8 x → ¬ InSpan (slot j) 8 x
  buffers : ∀ (k : Nat) (hk : k < ds.length), ∀ j < k,
    ∀ x, InSpan ds[k].buffer ds[k].length.toNat x → ¬ InSpan (slot j) 8 x

theorem ReadySlots.decode_head (h : ReadySlots s (d :: ds) slot) : s.decodeDesc (slot 0) = d :=
  h.decode 0 (Nat.zero_lt_succ _)

theorem ReadySlots.owned_head (h : ReadySlots s (d :: ds) slot) :
    (s.decodeDesc (slot 0)).owned = true :=
  h.decode_head ▸ h.owned 0 (Nat.zero_lt_succ _)

theorem ReadySlots.txNext_head (h : ReadySlots s (d :: ds) slot) : s.txNext (slot 0) = slot 1 := by
  rw [State.txNext_eq, h.decode_head]
  exact (h.next 0 (Nat.zero_lt_succ _)).symm

/-- The visit of the first slot leaves the others as they are. -/
theorem ReadySlots.tail (h : ReadySlots s (d :: ds) slot) (acc : List Byte) :
    ReadySlots (s.txSlot (slot 0) d acc).2 ds (fun k => slot (k + 1)) where
  decode k hk := by
    have hk' : k + 1 < (d :: ds).length := Nat.succ_lt_succ hk
    have hsame : (s.txSlot (slot 0) d acc).2.decodeDesc (slot (k + 1)) =
        s.decodeDesc (slot (k + 1)) :=
      State.decodeDesc_congr _ (s.txSlot_params _ _ _) fun x hx =>
        s.readByte_txSlot_outside d acc
          (h.apart (k + 1) hk' 0 (Nat.zero_lt_succ _) (Nat.succ_ne_zero k).symm x hx)
    exact hsame.trans (h.decode (k + 1) hk')
  owned k hk := h.owned (k + 1) (Nat.succ_lt_succ hk)
  next k hk := by
    rw [State.txSlot_etdsr]
    exact h.next (k + 1) (Nat.succ_lt_succ hk)
  apart k hk j hj hne :=
    h.apart (k + 1) (Nat.succ_lt_succ hk) (j + 1) (Nat.succ_lt_succ hj) (by omega)
  buffers k hk j hj := h.buffers (k + 1) (Nat.succ_lt_succ hk) (j + 1) (Nat.succ_lt_succ hj)

/-- The visit of the first slot leaves the buffers of the others as they are. -/
theorem ReadySlots.txBytes_tail (h : ReadySlots s (d :: ds) slot) (acc : List Byte) :
    ds.map (s.txSlot (slot 0) d acc).2.txBytes = ds.map s.txBytes := by
  refine List.map_congr_left fun d' hd' => ?_
  obtain ⟨k, hk, rfl⟩ := List.getElem_of_mem hd'
  refine congrArg (Prod.mk _) (State.readBytes_congr _ _ fun i hi => ?_)
  exact s.readByte_txSlot_outside d acc
    (h.buffers (k + 1) (Nat.succ_lt_succ hk) 0 (Nat.zero_lt_succ k) _ (inSpan_add_ofNat _ hi))

theorem ReadySlots.txLoop_cons (h : ReadySlots s (d :: ds) slot) (n : Nat) (acc : List Byte) :
    State.txLoop (n + 1) (slot 0) acc s =
      State.txLoop n (slot 1) (s.txSlot (slot 0) d acc).1 (s.txSlot (slot 0) d acc).2 := by
  rw [State.txLoop_of_owned n acc h.owned_head, h.txNext_head, h.decode_head]

theorem ReadySlots.txSlots_cons (h : ReadySlots s (d :: ds) slot) (n : Nat) (acc : List Byte) :
    txSlots (n + 1) (slot 0) acc s =
      slot 0 :: txSlots n (slot 1) (s.txSlot (slot 0) d acc).1 (s.txSlot (slot 0) d acc).2 := by
  rw [txSlots_of_owned n acc h.owned_head, h.txNext_head, h.decode_head]

/-! ### The pass over them -/

theorem ReadySlots.txSlots_eq (h : ReadySlots s ds slot) (acc : List Byte) :
    txSlots ds.length (slot 0) acc s = (List.range ds.length).map slot := by
  induction ds generalizing s slot acc with
  | nil => rfl
  | cons d ds ih =>
    rw [List.length_cons, h.txSlots_cons, ih (h.tail acc), List.range_succ_eq_map, List.map_cons,
      List.map_map]
    rfl

theorem ReadySlots.mem_txSlots_iff (h : ReadySlots s ds slot) (acc : List Byte) {a : Word} :
    a ∈ txSlots ds.length (slot 0) acc s ↔ ∃ k < ds.length, slot k = a := by
  rw [h.txSlots_eq acc, List.mem_map]
  simp only [List.mem_range]

theorem ReadySlots.txLoop_cursor (h : ReadySlots s ds slot) (acc : List Byte) :
    (State.txLoop ds.length (slot 0) acc s).1 = slot ds.length := by
  induction ds generalizing s slot acc with
  | nil => rfl
  | cons d ds ih =>
    rw [List.length_cons, h.txLoop_cons]
    exact ih (h.tail acc) _

/-- The frames sent are those gathered, each cut to the cap. -/
theorem ReadySlots.txLoop_sent (h : ReadySlots s ds slot) (acc : List Byte) :
    (State.txLoop ds.length (slot 0) (acc.take 2032) s).2.sent =
      s.sent ++ (gathered acc (ds.map s.txBytes)).1.map (List.take 2032) := by
  induction ds generalizing s slot acc with
  | nil => simp [State.txLoop, gathered]
  | cons d ds ih =>
    rw [List.length_cons, h.txLoop_cons, s.txSlot_bytes, ih (h.tail _), h.txBytes_tail,
      s.txSlot_sent, List.map_cons, gathered_cons acc (s.txBytes d) (ds.map s.txBytes),
      List.map_append, List.append_assoc]

/-- The events set are TXB and those of the frames gathered. -/
theorem ReadySlots.txLoop_eir (h : ReadySlots s ds slot) {acc : List Byte}
    (hbabt : 2032 < acc.length → s.eir ||| babt = s.eir) :
    (State.txLoop ds.length (slot 0) (acc.take 2032) s).2.eir =
      s.eir ||| (if ds = [] then 0 else txb) ||| txEvents (gathered acc (ds.map s.txBytes)) := by
  induction ds generalizing s slot acc with
  | nil => simpa [State.txLoop, gathered] using (or_txEvents_open hbabt).symm
  | cons d ds ih =>
    have hvisit := s.txSlot_eir (slot 0) d hbabt
    have hopen : 2032 < (gathered acc [s.txBytes d]).2.length →
        (s.txSlot (slot 0) d (acc.take 2032)).2.eir ||| babt =
          (s.txSlot (slot 0) d (acc.take 2032)).2.eir := by
      intro hlong
      rw [hvisit, BitVec.or_assoc, txEvents_or_babt
        ⟨_, List.mem_append_right _ (List.mem_singleton_self _), hlong⟩]
    have htxb : txb ||| (if ds = [] then 0 else txb) = txb := by
      split
      case isTrue => rfl
      case isFalse => exact BitVec.or_self
    rw [List.length_cons, h.txLoop_cons, s.txSlot_bytes, ih (h.tail _) hopen, h.txBytes_tail,
      hvisit, List.map_cons, txEvents_cons acc (s.txBytes d) (ds.map s.txBytes),
      if_neg (List.cons_ne_nil d ds)]
    generalize txEvents (gathered acc [s.txBytes d]) = first
    generalize txEvents (gathered (gathered acc [s.txBytes d]).2 (ds.map s.txBytes)) = rest
    calc s.eir ||| txb ||| first ||| (if ds = [] then 0 else txb) ||| rest
        = s.eir ||| (txb ||| (if ds = [] then 0 else txb)) ||| (first ||| rest) := by ac_rfl
      _ = s.eir ||| txb ||| (first ||| rest) := by rw [htxb]

/-- Each slot is left with its descriptor handed back. -/
theorem ReadySlots.txLoop_decode (h : ReadySlots s ds slot) (hm : s.mem.wf = true) (acc : List Byte)
    (k : Nat) (hk : k < ds.length) :
    (State.txLoop ds.length (slot 0) acc s).2.decodeDesc (slot k) = ds[k].release := by
  have hencode : (s.encodeDesc ds[k].release (slot k)).decodeDesc (slot k) = ds[k].release :=
    (descriptorRoundTrip s ds[k].release (slot k) hm).1
  rw [← hencode]
  refine State.decodeDesc_congr _ (State.txLoop_params _ _ _ _) fun x hx => ?_
  have hflag : x ∈ (txSlots ds.length (slot 0) acc s).map (flagByte s.params.devEndian) ↔
      x = flagByte s.params.devEndian (slot k) := by
    constructor
    case mp =>
      intro hmem
      obtain ⟨a, ha, rfl⟩ := List.mem_map.mp hmem
      obtain ⟨j, hj, rfl⟩ := (h.mem_txSlots_iff acc).mp ha
      by_cases hjk : j = k
      · rw [hjk]
      · exact absurd (inSpan_flagByte _ _) (h.apart k hk j hj hjk _ hx)
    case mpr =>
      rintro rfl
      exact List.mem_map_of_mem ((h.mem_txSlots_iff acc).mpr ⟨k, hk, rfl⟩)
  have hvisit := s.readByte_encodeDesc_release hm (slot k) x
  rw [h.decode k hk] at hvisit
  rw [hvisit, State.readByte_txLoop _ _ _ _ hm]
  simp only [hflag]

/-- The pass ends after the last of them, where it is bound to their number, or its bound is none or
larger and the slot after is not ready or one of them. -/
theorem ReadySlots.txLoop_limit (h : ReadySlots s ds slot) (hm : s.mem.wf = true)
    (hlen : ds.length ≤ 4294967296)
    (hend : s.params.maxDescPerPass = some ds.length ∨
      ((∀ m, s.params.maxDescPerPass = some m → ds.length < m) ∧
        ((s.decodeDesc (slot ds.length)).owned = false ∨
          ∃ k < ds.length, slot ds.length = slot k))) :
    State.txLoop s.txLimit (slot 0) [] s = State.txLoop ds.length (slot 0) [] s := by
  rcases hend with hbound | ⟨hlarger, hstop⟩
  · rw [State.txLimit_of_some hbound]
  · have hlimit : ds.length ≤ s.txLimit := by
      cases hmax : s.params.maxDescPerPass with
      | none => exact (hlen.trans (Nat.le_succ _)).trans_eq (State.txLimit_of_none hmax).symm
      | some m => exact (hlarger m hmax).le.trans_eq (State.txLimit_of_some hmax).symm
    rw [← Nat.add_sub_of_le hlimit]
    refine State.txLoop_add_of_not_owned _ _ _ _ _ ?_
    rw [h.txLoop_cursor, State.owned_txLoop _ _ _ _ hm]
    split
    case isTrue => rfl
    case isFalse hnew =>
      rcases hstop with hready | ⟨k, hk, heq⟩
      · exact hready
      · exact absurd ((h.mem_txSlots_iff []).mpr ⟨k, hk, heq.symm⟩) hnew

/-! ### A frame in one slot -/

/-- A pass bound to one slot, or one that finds the next slot not ready, is one visit. -/
theorem State.txPass_of_one_visit (h : (s.decodeDesc s.txCursor).owned = true)
    (hsome : s.params.maxDescPerPass ≠ some 0)
    (hend : s.params.maxDescPerPass = some 1 ∨
      ((s.txSlot s.txCursor (s.decodeDesc s.txCursor) []).2.decodeDesc
        (s.txNext s.txCursor)).owned = false) :
    s.txPass = { (s.txSlot s.txCursor (s.decodeDesc s.txCursor) []).2 with
                 txCursor := s.txNext s.txCursor } := by
  obtain ⟨n, hn⟩ : ∃ n, s.txLimit = n + 1 := by
    refine Nat.exists_eq_succ_of_ne_zero fun hzero => ?_
    cases hmax : s.params.maxDescPerPass with
    | none => exact absurd ((State.txLimit_of_none hmax).symm.trans hzero) (by decide)
    | some m =>
      have hm : m = 0 := (State.txLimit_of_some hmax).symm.trans hzero
      exact hsome (hmax.trans (congrArg some hm))
  have hstop (acc : List Byte) :
      State.txLoop n (s.txNext s.txCursor) acc
          (s.txSlot s.txCursor (s.decodeDesc s.txCursor) []).2 =
        (s.txNext s.txCursor, (s.txSlot s.txCursor (s.decodeDesc s.txCursor) []).2) := by
    rcases hend with hone | hready
    · obtain rfl : 0 = n := Nat.succ.inj ((State.txLimit_of_some hone).symm.trans hn)
      rfl
    · exact State.txLoop_of_not_owned _ n acc hready
  rw [State.txPass, hn, State.txLoop_of_owned n [] h, hstop]

/-- The visit of a slot with L and no bytes gathered before sends the slot's bytes, cut to the
cap. -/
theorem State.txSlot_one_frame (s : State) (addr : Word) (hlast : d.last = true) :
    (s.txSlot addr d []).2 =
      { s with mem := (s.encodeDesc d.release addr).mem
               sent := s.sent ++ [s.readBytes d.buffer (min d.length.toNat 2032)]
               eir := s.eir ||| 0x0C000000 |||
                 (if d.length.toNat > 2032 then 0x20000000 else 0) } := by
  have hsent := s.txSlot_sent addr d []
  have heir := s.txSlot_eir addr d (acc := []) (fun h => absurd h (by decide))
  rw [List.take_nil, State.txBytes, hlast, gathered_singleton, if_pos rfl, List.map_singleton,
    List.nil_append, State.take_readBytes, Nat.min_comm] at hsent
  rw [List.take_nil, State.txBytes, hlast, txEvents_singleton, List.nil_append,
    State.length_readBytes, BitVec.or_assoc, ← BitVec.or_assoc txb, ← BitVec.or_assoc] at heir
  rw [State.txSlot_frame, State.txSlot_mem, hsent, heir]
  rfl

end Sys2Proof.Machine
end

section
/-! The statements about the transmit engine (42_transmit.md). -/

namespace Sys2Proof.Machine

/-- Settles O38: each visit clears the ready bit of its slot and no other bit of memory. -/
theorem transmitPassClearsReadyBits : Obligations.TransmitPassClearsReadyBits := by
  intro s t v hm hen hbit ht
  have hpass := afterPass_of_tdarWr ⟨hen, hbit⟩ ht
  refine ⟨fun a ha => ?_, fun x => ?_⟩
  · rw [hpass.decodeDesc, State.owned_txLoop _ _ _ _ hm, if_pos ha]
  · rw [hpass.readByte]
    exact State.readByte_txLoop _ _ _ _ hm x

/-- Settles O39: no slot is handed back twice, so there are fewer slots than the bound of an
unbounded pass. -/
theorem transmitPassEndsAtASlotNotReady : Obligations.TransmitPassEndsAtASlotNotReady := by
  intro s t v hm hen hbit ht
  have hpass := afterPass_of_tdarWr ⟨hen, hbit⟩ ht
  have hstops := State.txLoop_stops s.txLimit s.txCursor [] s
  have hbound := length_txSlots_le s.txLimit s.txCursor [] s
  have hcard := length_txSlots_le_card s.txLimit s.txCursor [] s hm
  have hcursor := State.txLoop_cursor s.txLimit s.txCursor [] s hm
  rw [← hpass.cursor, ← hpass.decodeDesc] at hstops
  refine ⟨hstops.imp_right fun hlen => ?_, fun m hmax => ?_, ?_⟩
  · cases hmax : s.params.maxDescPerPass with
    | none =>
      rw [hlen, State.txLimit_of_none hmax] at hcard
      exact absurd hcard (by decide)
    | some m => rw [hlen, State.txLimit_of_some hmax]
  · exact hbound.trans_eq (State.txLimit_of_some hmax)
  · rw [hpass.cursor, hcursor]
    cases (txSlots s.txLimit s.txCursor [] s).getLast? <;> rfl

/-- Settles O37: what the pass may add, and the slots it stores to. -/
theorem transmitChangesOnlyItsOwn : Obligations.TransmitChangesOnlyItsOwn := by
  intro s t v ht
  obtain ⟨hafter, heq⟩ := tdarWr_next ht
  obtain ⟨⟨e, heir, he⟩, hsent⟩ := TxGrows.transmitRequest s v
  have hteir : t.eir = s.eir ||| e := by rw [heq]; exact heir
  refine ⟨hafter, ?_, ?_, ?_, ?_, fun x hx => ?_⟩
  · rw [heq, State.transmitRequest_frame]
  · rw [hteir]
    exact and_not_or_self _ _
  · rw [hteir, BitVec.and_assoc, ← BitVec.not_or]
    refine or_and_not_eq_zero (and_not_or_self _ _) ?_
    rw [BitVec.not_or, BitVec.and_comm (~~~s.eir), ← BitVec.and_assoc, he]
    exact BitVec.zero_and
  · rw [heq]
    exact hsent
  · rw [heq]
    exact s.readByte_transmitRequest_outside v fun hgate a ha => hx a ha hgate.1 hgate.2

/-- Settles O36: the pass is one visit, with no bytes gathered before. -/
theorem transmitSendsAOneSlotFrame : Obligations.TransmitSendsAOneSlotFrame := by
  rintro s v d e hs hen hbit hsome rfl hready hlast rfl hend
  have hvisit := s.txSlot_one_frame s.txCursor hlast
  have hpass := State.txPass_of_one_visit hready hsome (by rw [hvisit]; exact hend)
  have hwrites := writes_tdarWr hs v
  rw [State.transmitRequest_of_gate ⟨hen, hbit⟩, hpass, hvisit] at hwrites
  exact hwrites

/-- Settles O40: the pass hands back exactly the `N` slots, and what they gather is what it
sends. -/
theorem transmitReassemblesAFrame : Obligations.TransmitReassemblesAFrame := by
  rintro s v ds slot g hs hm hen hbit hpos hlen hfirst hslots hend rfl
  simp only [forall_and] at hslots
  obtain ⟨decode, owned, next, apart, buffers⟩ := hslots
  have hready : ReadySlots s ds slot := ⟨decode, owned, next, apart, buffers⟩
  obtain ⟨t, ht, -⟩ := writes_tdarWr hs v
  have hpass := afterPass_of_tdarWr ⟨hen, hbit⟩ ht
  have hloop := hready.txLoop_limit hm hlen hend
  rw [hfirst] at hloop
  refine ⟨t, ht, ?_, fun k hk => ?_, ?_, ?_⟩
  · rw [hpass.sent, hloop, ← hfirst]
    exact hready.txLoop_sent []
  · rw [hpass.decodeDesc, hloop, ← hfirst]
    exact hready.txLoop_decode hm [] k hk
  · rw [hpass.cursor, hloop, ← hfirst]
    exact hready.txLoop_cursor []
  · have heir := hready.txLoop_eir (acc := []) fun h => absurd h (by decide)
    rw [if_neg (List.ne_nil_of_length_pos hpos), txEvents, ← BitVec.or_assoc] at heir
    rw [hpass.eir, hloop, ← hfirst]
    exact heir

end Sys2Proof.Machine
end

section
/-! SUPPORT. One visit of a receive slot, and the pass as an induction: it stops where nothing is
left to deliver or at a slot that is not empty, and else fills the slot and goes on from the next
(43_receive.md R206 to R213). -/

namespace Sys2Proof.Machine

variable {s : State} {addr : Word} {rest : List Byte} {err : Half}

/-! ### One visit -/

/-- The descriptor a visit hands the slot `d` back with, `rest` being the bytes left (R209). -/
def State.rxHanded (s : State) (d : Desc) (rest : List Byte) (err : Half) : Desc :=
  rxFilled d (min rest.length s.bufferMax) (rest.drop s.bufferMax).isEmpty err

/-- The event of a visit: RXF where it delivers the last byte, else RXB (R210). -/
def State.rxEvent (s : State) (rest : List Byte) : Word :=
  if (rest.drop s.bufferMax).isEmpty then rxf else rxb

/-- The state after the visit of the slot at `addr`. -/
def State.rxVisit (s : State) (addr : Word) (rest : List Byte) (err : Half) : State :=
  (s.rxSlot addr (s.decodeDesc addr) rest err).2

/-- The address the pass goes on to from the slot at `addr` (R211). -/
def State.rxNext (s : State) (addr : Word) (rest : List Byte) (err : Half) : Word :=
  (s.rxHanded (s.decodeDesc addr) rest err).next addr s.erdsr

theorem State.rxSlot_rest (s : State) (addr : Word) (d : Desc) (rest : List Byte) (err : Half) :
    (s.rxSlot addr d rest err).1 = rest.drop s.bufferMax := by
  rw [State.rxSlot, Nat.min_comm, ← List.drop_eq_drop_min]

/-- A visit in its order (R216): the chunk, the event, the slot. -/
theorem State.rxVisit_eq (s : State) (addr : Word) (rest : List Byte) (err : Half) :
    s.rxVisit addr rest err =
      ((s.writeBytes (s.decodeDesc addr).buffer (rest.take s.bufferMax)).raise
        (s.rxEvent rest)).encodeDesc (s.rxHanded (s.decodeDesc addr) rest err) addr := by
  rw [State.rxVisit, State.rxSlot]
  dsimp only
  rw [Nat.min_comm, ← List.take_eq_take_min, ← List.drop_eq_drop_min, Nat.min_comm]
  rfl

@[simp] theorem State.rxVisit_params (s : State) (addr : Word) (rest : List Byte) (err : Half) :
    (s.rxVisit addr rest err).params = s.params := rfl
@[simp] theorem State.rxVisit_bufferMax (s : State) (addr : Word) (rest : List Byte) (err : Half) :
    (s.rxVisit addr rest err).bufferMax = s.bufferMax := rfl
@[simp] theorem State.rxVisit_eir (s : State) (addr : Word) (rest : List Byte) (err : Half) :
    (s.rxVisit addr rest err).eir = s.eir ||| s.rxEvent rest := by
  rw [State.rxVisit_eq]
  rfl

theorem State.rxEvent_of_fits (h : rest.drop s.bufferMax = []) : s.rxEvent rest = rxf := by
  rw [State.rxEvent, h]
  rfl

theorem State.rxEvent_of_more (h : rest.drop s.bufferMax ≠ []) : s.rxEvent rest = rxb :=
  if_neg (List.isEmpty_iff.not.mpr h)

/-- A visit stores its chunk and its slot and nothing else. -/
theorem State.readByte_rxVisit_outside {x : Word}
    (hchunk : ¬ InSpan (s.decodeDesc addr).buffer (min rest.length s.bufferMax) x)
    (hslot : ¬ InSpan addr 8 x) : (s.rxVisit addr rest err).readByte x = s.readByte x := by
  rw [State.rxVisit_eq, State.readByte_encodeDesc_outside _ _ _ hslot]
  refine State.readByte_writeBytes_outside s _ _ ?_
  rwa [List.length_take, Nat.min_comm]

/-- A visit leaves its slot with the descriptor handed back, whatever the chunk overlaps. -/
theorem State.decodeDesc_rxVisit (hm : s.mem.wf = true) (addr : Word) (rest : List Byte)
    (err : Half) :
    (s.rxVisit addr rest err).decodeDesc addr = s.rxHanded (s.decodeDesc addr) rest err := by
  rw [State.rxVisit_eq]
  exact (descriptorRoundTrip _ _ addr (State.wf_writeBytes hm _ _)).1

theorem State.wf_rxVisit (hm : s.mem.wf = true) (addr : Word) (rest : List Byte) (err : Half) :
    (s.rxVisit addr rest err).mem.wf = true :=
  State.wf_rxSlot hm _ _ _ _

/-! ### The pass -/

theorem State.rxLoop_nil (n : Nat) (addr : Word) (err : Half) (s : State) :
    State.rxLoop n addr [] err s = (addr, s) := by
  cases n <;> rfl

theorem State.rxLoop_of_not_owned (n : Nat) (err : Half) (hrest : rest ≠ [])
    (h : (s.decodeDesc addr).owned = false) :
    State.rxLoop (n + 1) addr rest err s = (addr, s.note (.lostEndOfFrame addr)) := by
  simp [State.rxLoop, hrest, h]

theorem State.rxLoop_of_owned (n : Nat) (err : Half) (hrest : rest ≠ [])
    (h : (s.decodeDesc addr).owned = true) :
    State.rxLoop (n + 1) addr rest err s =
      State.rxLoop n (s.rxNext addr rest err) (rest.drop s.bufferMax) err
        (s.rxVisit addr rest err) := by
  rw [State.rxLoop, if_neg (List.isEmpty_iff.not.mpr hrest), if_pos h]
  dsimp only
  rw [State.rxSlot_rest]
  rfl

theorem rxSpans_nil (n : Nat) (addr : Word) (err : Half) (s : State) :
    rxSpans n addr [] err s = [] := by
  cases n <;> rfl

theorem rxSpans_of_not_owned (n : Nat) (err : Half) (h : (s.decodeDesc addr).owned = false) :
    rxSpans n addr rest err s = [] := by
  cases n <;> simp [rxSpans, h]

theorem rxSpans_of_owned (n : Nat) (err : Half) (hrest : rest ≠ [])
    (h : (s.decodeDesc addr).owned = true) :
    rxSpans (n + 1) addr rest err s =
      ((s.decodeDesc addr).buffer, min rest.length s.bufferMax) :: (addr, 8) ::
        rxSpans n (s.rxNext addr rest err) (rest.drop s.bufferMax) err
          (s.rxVisit addr rest err) := by
  rw [rxSpans, if_neg (List.isEmpty_iff.not.mpr hrest), if_pos h]
  dsimp only
  rw [State.rxSlot_rest]
  rfl

/-- The induction of every statement about a pass: at its bound, with nothing left to deliver, at a
slot that is not empty, and from an empty slot on to the next. -/
theorem rxPass_induction {err : Half} {motive : Nat → Word → List Byte → State → Prop}
    (bound : ∀ addr rest s, motive 0 addr rest s)
    (done : ∀ n addr s, motive n addr [] s)
    (lost : ∀ n addr rest s, rest ≠ [] → (s.decodeDesc addr).owned = false →
      motive (n + 1) addr rest s)
    (visit : ∀ n addr rest s, rest ≠ [] → (s.decodeDesc addr).owned = true →
      motive n (s.rxNext addr rest err) (rest.drop s.bufferMax) (s.rxVisit addr rest err) →
      motive (n + 1) addr rest s)
    (n : Nat) (addr : Word) (rest : List Byte) (s : State) : motive n addr rest s := by
  induction n generalizing addr rest s with
  | zero => exact bound addr rest s
  | succ n ih =>
    by_cases hrest : rest = []
    · exact hrest ▸ done _ _ _
    · cases ho : (s.decodeDesc addr).owned with
      | false => exact lost _ _ _ _ hrest ho
      | true => exact visit _ _ _ _ hrest ho (ih _ _ _)

/-- A pass leaves every byte outside the spans it stores to alone. -/
theorem State.readByte_rxLoop_outside (n : Nat) (addr : Word) (rest : List Byte) (err : Half)
    (s : State) {x : Word} (h : ∀ p ∈ rxSpans n addr rest err s, ¬ InSpan p.1 p.2 x) :
    (State.rxLoop n addr rest err s).2.readByte x = s.readByte x := by
  induction n, addr, rest, s using rxPass_induction (err := err) with
  | bound addr rest s => rfl
  | done n addr s => rw [State.rxLoop_nil]
  | lost n addr rest s hrest ho => rw [State.rxLoop_of_not_owned n err hrest ho]; rfl
  | visit n addr rest s hrest ho ih =>
    rw [rxSpans_of_owned n err hrest ho] at h
    obtain ⟨hchunk, hslot, hlater⟩ := by simpa only [List.forall_mem_cons] using h
    rw [State.rxLoop_of_owned n err hrest ho, ih hlater,
      State.readByte_rxVisit_outside hchunk hslot]

/-! ### How a pass ends (R206, R210, R214) -/

/-- The two ends of a pass over at most `n` slots, by what it adds to the log and to EIR, and the
cut at its bound. -/
inductive RxEnd (n : Nat) (s : State) (spans : List (Word × Nat)) (r : Word × State) : Prop
  | delivered (filled : spans ≠ []) (log : r.2.log = s.log)
      (eir : r.2.eir = s.eir ||| rxf ||| if 2 < spans.length then rxb else 0)
  | lost (stop : (r.2.decodeDesc r.1).owned = false)
      (log : r.2.log = s.log ++ [.lostEndOfFrame r.1])
      (eir : r.2.eir = s.eir ||| if spans = [] then 0 else rxb)
  | cut (all : spans.length = 2 * n) (log : r.2.log = s.log)
      (eir : r.2.eir = s.eir ||| if spans = [] then 0 else rxb)

/-- A visit that leaves bytes to deliver adds RXB, and two spans, to how the pass ends after it. -/
theorem RxEnd.after_visit {n : Nat} {v : State} {spans : List (Word × Nat)} {r : Word × State}
    (h : RxEnd n v spans r) (chunk slot : Word × Nat) (hlog : v.log = s.log)
    (heir : v.eir = s.eir ||| rxb) : RxEnd (n + 1) s (chunk :: slot :: spans) r := by
  have absorb (e : Word) (he : rxb ||| e = rxb) : v.eir ||| e = s.eir ||| rxb := by
    rw [heir, BitVec.or_assoc, he]
  cases h with
  | delivered filled log eir =>
    refine .delivered (List.cons_ne_nil _ _) (log.trans hlog) ?_
    have hmore : 2 < (chunk :: slot :: spans).length :=
      Nat.add_lt_add_right (List.length_pos_iff.mpr filled) 2
    have hrxb : rxb ||| (if 2 < spans.length then rxb else 0) = rxb := by split <;> rfl
    calc r.2.eir
        = (v.eir ||| if 2 < spans.length then rxb else 0) ||| rxf := by rw [eir]; ac_rfl
      _ = s.eir ||| rxb ||| rxf := by rw [absorb _ hrxb]
      _ = s.eir ||| rxf ||| rxb := by ac_rfl
      _ = _ := by rw [if_pos hmore]
  | lost stop log eir =>
    refine .lost stop (log.trans (by rw [hlog])) (eir.trans (absorb _ ?_))
    split <;> rfl
  | cut all log eir =>
    refine .cut (congrArg (· + 2) all) (log.trans hlog) (eir.trans (absorb _ ?_))
    split <;> rfl

theorem rxLoop_end (n : Nat) (addr : Word) (rest : List Byte) (err : Half) (s : State)
    (hrest : rest ≠ []) :
    RxEnd n s (rxSpans n addr rest err s) (State.rxLoop n addr rest err s) := by
  induction n, addr, rest, s using rxPass_induction (err := err) with
  | bound addr rest s => exact .cut rfl rfl BitVec.or_zero.symm
  | done n addr s => exact absurd rfl hrest
  | lost n addr rest s _ ho =>
    rw [rxSpans_of_not_owned _ err ho, State.rxLoop_of_not_owned n err hrest ho]
    exact .lost ho rfl BitVec.or_zero.symm
  | visit n addr rest s _ ho ih =>
    have heir := s.rxVisit_eir addr rest err
    rw [rxSpans_of_owned n err hrest ho, State.rxLoop_of_owned n err hrest ho]
    by_cases hlast : rest.drop s.bufferMax = []
    · rw [s.rxEvent_of_fits hlast] at heir
      rw [hlast, rxSpans_nil, State.rxLoop_nil]
      exact .delivered (List.cons_ne_nil _ _) rfl (heir.trans BitVec.or_zero.symm)
    · rw [s.rxEvent_of_more hlast] at heir
      exact (ih hlast).after_visit _ _ rfl heir

end Sys2Proof.Machine
end

section
/-! SUPPORT. No pass is cut at its bound: each visit delivers a byte, or, where EMRBR is 0, makes
one empty slot not empty and none empty (43_receive.md R206, R214(d)). -/

namespace Sys2Proof.Machine

variable {s : State} {addr : Word} {rest : List Byte} {err : Half}

/-! ### Where a visit delivers bytes -/

theorem length_rxSpans_le_bytes (n : Nat) (addr : Word) (rest : List Byte) (err : Half) (s : State)
    (hpos : 0 < s.bufferMax) : (rxSpans n addr rest err s).length ≤ 2 * rest.length := by
  induction n, addr, rest, s using rxPass_induction (err := err) with
  | bound addr rest s => exact Nat.zero_le _
  | done n addr s => rw [rxSpans_nil]; exact Nat.zero_le _
  | lost n addr rest s hrest ho => rw [rxSpans_of_not_owned _ err ho]; exact Nat.zero_le _
  | visit n addr rest s hrest ho ih =>
    have hlater := ih hpos
    have hsome := List.length_pos_iff.mpr hrest
    rw [List.length_drop] at hlater
    rw [rxSpans_of_owned n err hrest ho, List.length_cons, List.length_cons]
    omega

/-! ### Where EMRBR is 0 -/

theorem enc32_and (e : Endian) (v w : Word) :
    enc32 e (v &&& w) = List.zipWith (· &&& ·) (enc32 e v) (enc32 e w) := by
  cases e <;> simp [enc32, BitVec.extractLsb'_and]

/-- In the bytes of a slot, taking no byte is a mask: it clears the ownership bit and the length. -/
theorem slotBytes_filled_with_none (e : Endian) (d : Desc) (err : Half) :
    slotBytes e (rxFilled d 0 false err) =
      List.zipWith (· &&& ·) (slotBytes e d) (slotBytes e ⟨0x7FFF, 0, 0xFFFFFFFF⟩) := by
  have hhead : (d.flags &&& 0x7FFF#16) ++ 0#16 =
      (d.flags ++ d.length) &&& ((0x7FFF#16 : Half) ++ (0#16 : Half)) := by
    rw [BitVec.and_append, BitVec.and_zero]
  have hbuffer : d.buffer = d.buffer &&& 0xFFFFFFFF#32 := BitVec.and_allOnes.symm
  show enc32 e ((d.flags &&& 0x7FFF#16) ++ 0#16) ++ enc32 e d.buffer = _
  rw [hhead, enc32_and]
  conv_lhs => rw [hbuffer, enc32_and]
  exact (List.zipWith_append (by simp)).symm

theorem State.rxVisit_of_no_room (h0 : s.bufferMax = 0) (hrest : rest ≠ []) :
    (s.rxVisit addr rest err).mem =
      (s.encodeDesc (rxFilled (s.decodeDesc addr) 0 false err) addr).mem := by
  rw [State.rxVisit_eq, State.rxHanded, h0, Nat.min_zero, List.drop_zero,
    List.isEmpty_eq_false_iff.mpr hrest]
  rfl

/-- A visit that takes no byte sets no bit of memory, whatever overlaps its slot. -/
theorem State.readByte_rxVisit_of_no_room (hm : s.mem.wf = true) (h0 : s.bufferMax = 0)
    (hrest : rest ≠ []) (addr : Word) (err : Half) (x : Word) :
    ∃ mask : Byte, (s.rxVisit addr rest err).readByte x = s.readByte x &&& mask := by
  have hread : (s.rxVisit addr rest err).readByte x =
      (s.encodeDesc (rxFilled (s.decodeDesc addr) 0 false err) addr).readByte x :=
    congrArg (·.get x.toNat) (State.rxVisit_of_no_room h0 hrest)
  by_cases hx : InSpan addr 8 x
  · obtain ⟨i, hi, rfl⟩ := hx.exists_offset
    have hbytes : slotBytes s.params.devEndian (s.decodeDesc addr) = s.readBytes addr 8 :=
      (State.decodeDesc_eq_iff.mp rfl).symm
    have hlen (d : Desc) : (slotBytes s.params.devEndian d).length = 8 := length_slotBytes _ d
    rw [hread, State.encodeDesc_eq_writeBytes,
      State.readByte_writeBytes_inside s hm addr _ (by rw [hlen]; decide) (by rwa [hlen])]
    simp only [slotBytes_filled_with_none, List.getElem_zipWith, hbytes,
      State.getElem_readBytes s addr hi]
    exact ⟨_, rfl⟩
  · exact ⟨BitVec.allOnes 8, by
      rw [hread, State.readByte_encodeDesc_outside s _ addr hx, BitVec.and_allOnes]⟩

theorem rxFilled_not_owned (d : Desc) (n : Nat) (err : Half) :
    (rxFilled d n false err).owned = false := by
  rw [Desc.owned_eq_getLsbD]
  exact BitVec.getLsbD_and.trans (Bool.and_false _)

/-- The addresses at which an empty slot stands. -/
def emptySlots (s : State) : Finset Word := {a | (s.decodeDesc a).owned = true}

theorem mem_emptySlots {a : Word} : a ∈ emptySlots s ↔ (s.decodeDesc a).owned = true := by
  simp [emptySlots]

theorem emptySlots_rxVisit_subset (hm : s.mem.wf = true) (h0 : s.bufferMax = 0) (hrest : rest ≠ [])
    (addr : Word) (err : Half) :
    emptySlots (s.rxVisit addr rest err) ⊆ (emptySlots s).erase addr := by
  intro a ha
  rw [mem_emptySlots] at ha
  rw [Finset.mem_erase, mem_emptySlots]
  constructor
  · rintro rfl
    rw [State.decodeDesc_rxVisit hm, State.rxHanded, h0, List.drop_zero,
      List.isEmpty_eq_false_iff.mpr hrest, rxFilled_not_owned] at ha
    cases ha
  · obtain ⟨mask, hmask⟩ := State.readByte_rxVisit_of_no_room hm h0 hrest addr err
      (flagByte s.params.devEndian a)
    rw [State.owned_decodeDesc, State.rxVisit_params, hmask, BitVec.getLsbD_and,
      Bool.and_eq_true] at ha
    rw [State.owned_decodeDesc]
    exact ha.1

theorem length_rxSpans_le_slots (n : Nat) (addr : Word) (rest : List Byte) (err : Half) (s : State)
    (hm : s.mem.wf = true) (h0 : s.bufferMax = 0) :
    (rxSpans n addr rest err s).length ≤ 2 * (emptySlots s).card := by
  induction n, addr, rest, s using rxPass_induction (err := err) with
  | bound addr rest s => exact Nat.zero_le _
  | done n addr s => rw [rxSpans_nil]; exact Nat.zero_le _
  | lost n addr rest s hrest ho => rw [rxSpans_of_not_owned _ err ho]; exact Nat.zero_le _
  | visit n addr rest s hrest ho ih =>
    have hlater := ih (State.wf_rxVisit hm addr rest err) h0
    have hfewer := Finset.card_le_card (emptySlots_rxVisit_subset hm h0 hrest addr err)
    have hthis := Finset.card_erase_add_one (mem_emptySlots.mpr ho)
    rw [rxSpans_of_owned n err hrest ho, List.length_cons, List.length_cons]
    omega

/-! ### Every pass ends before its bound -/

theorem length_rxSpans_lt_limit (addr : Word) (err : Half) (hm : s.mem.wf = true)
    (hlen : rest.length ≤ 2032) :
    (rxSpans Config.visitLimit addr rest err s).length < 2 * Config.visitLimit := by
  have hlimit : Config.visitLimit = 4294967297 := rfl
  rcases Nat.eq_zero_or_pos s.bufferMax with h0 | hpos
  · have hslots := length_rxSpans_le_slots Config.visitLimit addr rest err s hm h0
    have hcard : (emptySlots s).card ≤ 4294967296 := (Finset.card_le_univ _).trans_eq card_word
    omega
  · have hbytes := length_rxSpans_le_bytes Config.visitLimit addr rest err s hpos
    omega

end Sys2Proof.Machine
end

section
/-! SUPPORT. `RECEIVE` as a whole: the stream it delivers, the pass it runs, and the state after it
(43_receive.md R202 to R205, R212, R213). -/

namespace Sys2Proof.Machine

variable {s t : State} {frame : List Byte} {draw : Option Trailer}

/-! ### The stream (R202 to R205) -/

/-- The delivered stream of a frame: the payload cut so that the total is at most 2032, and the
trailer. -/
def delivered (frame : List Byte) (tr : Trailer) : List Byte :=
  frame.take (min (frame.length + 4) 2032 - 4) ++ [tr.t0, tr.t1, tr.t2, tr.t3]

/-- The error flags of a frame: TR and LG where it is cut, LG where it is longer than the maximum
frame length. -/
def State.rxErrors (s : State) (frame : List Byte) : Half :=
  if frame.length + 4 > 2032 then 0x0021
  else if frame.length + 4 > (s.rcr >>> 16).toNat then 0x0020 else 0

theorem State.maxFrame_eq (s : State) : s.maxFrame = (s.rcr >>> 16).toNat := by
  have hrcr := s.rcr.isLt
  rw [State.maxFrame, BitVec.extractLsb'_toNat, BitVec.toNat_ushiftRight, Nat.shiftRight_eq_div_pow]
  omega

theorem State.rxClassify_eq (s : State) (frame : List Byte) :
    rxClassify frame.length s.maxFrame =
      (min (frame.length + 4) 2032, s.rxErrors frame) := by
  unfold rxClassify Config.frameCap State.rxErrors
  rw [s.maxFrame_eq]
  split
  case isTrue hlong => rw [Nat.min_eq_right (Nat.le_of_lt hlong)]
  case isFalse hfits =>
    rw [Nat.min_eq_left (Nat.le_of_not_lt hfits)]
    split <;> rfl

theorem length_delivered (frame : List Byte) (tr : Trailer) :
    (delivered frame tr).length = min (frame.length + 4) 2032 := by
  rw [delivered, List.length_append, List.length_take]
  simp only [List.length_cons, List.length_nil]
  omega

/-- The trailer is always delivered, so no stream is empty. -/
theorem delivered_ne_nil (frame : List Byte) (tr : Trailer) : delivered frame tr ≠ [] :=
  List.append_ne_nil_of_right_ne_nil _ (List.cons_ne_nil _ _)

/-- The error flags hold none of the bits the advance reads (30_encoding.md R87). -/
theorem State.rxErrors_no_wrap (s : State) (frame : List Byte) :
    (s.rxErrors frame).getLsbD 13 = false := by
  unfold State.rxErrors
  split
  case isTrue => rfl
  case isFalse => split <;> rfl

/-! ### The pass -/

/-- The slots of `RECEIVE(frame)`: where the pass stops, and the state there (R213). -/
def State.rxRun (s : State) (frame : List Byte) (draw : Option Trailer) : Word × State :=
  State.rxLoop Config.visitLimit s.rxCursor (delivered frame (s.drawTrailer draw).1)
    (s.rxErrors frame) (s.drawTrailer draw).2

theorem State.rxPass_eq (s : State) (frame : List Byte) (draw : Option Trailer) :
    s.rxPass frame draw =
      (((s.rxRun frame draw).2.rxExit (s.rxRun frame draw).1).reply .none).update := by
  rw [State.rxPass, s.rxClassify_eq]
  rfl

theorem receiveSpans_eq (s : State) (frame : List Byte) (draw : Option Trailer) :
    receiveSpans s frame draw =
      rxSpans Config.visitLimit s.rxCursor (delivered frame (s.drawTrailer draw).1)
        (s.rxErrors frame) (s.drawTrailer draw).2 := by
  rw [receiveSpans, s.rxClassify_eq]
  rfl

theorem State.rxRun_frame (s : State) (frame : List Byte) (draw : Option Trailer) :
    (s.rxRun frame draw).2 =
      { s with mem := (s.rxRun frame draw).2.mem, eir := (s.rxRun frame draw).2.eir
               log := (s.rxRun frame draw).2.log, draws := (s.drawTrailer draw).2.draws } := by
  rw [State.rxRun, State.rxLoop_frame, State.drawTrailer_frame]

theorem RxEnd.congr {n : Nat} {v : State} {spans : List (Word × Nat)} {r : Word × State}
    (h : RxEnd n v spans r) (hlog : v.log = s.log) (heir : v.eir = s.eir) :
    RxEnd n s spans r := by
  cases h with
  | delivered filled log eir => exact .delivered filled (hlog ▸ log) (heir ▸ eir)
  | lost stop log eir => exact .lost stop (hlog ▸ log) (heir ▸ eir)
  | cut all log eir => exact .cut all (hlog ▸ log) (heir ▸ eir)

theorem State.rxRun_end (s : State) (frame : List Byte) (draw : Option Trailer) :
    RxEnd Config.visitLimit s (receiveSpans s frame draw) (s.rxRun frame draw) := by
  have hend := rxLoop_end Config.visitLimit s.rxCursor _ (s.rxErrors frame)
    (s.drawTrailer draw).2 (delivered_ne_nil frame (s.drawTrailer draw).1)
  rw [receiveSpans_eq]
  exact hend.congr (by rw [s.drawTrailer_frame]) (by rw [s.drawTrailer_frame])

theorem length_receiveSpans_lt (hm : s.mem.wf = true) (frame : List Byte)
    (draw : Option Trailer) :
    (receiveSpans s frame draw).length < 2 * Config.visitLimit := by
  rw [receiveSpans_eq]
  refine length_rxSpans_lt_limit _ _ ?_ ?_
  · rw [s.drawTrailer_frame]
    exact hm
  · rw [length_delivered]
    exact Nat.min_le_right _ _

theorem State.readByte_rxRun_outside (s : State) (frame : List Byte) (draw : Option Trailer)
    {x : Word} (h : ∀ p ∈ receiveSpans s frame draw, ¬ InSpan p.1 p.2 x) :
    (s.rxRun frame draw).2.readByte x = s.readByte x := by
  rw [receiveSpans_eq] at h
  rw [State.rxRun, State.readByte_rxLoop_outside _ _ _ _ _ h, s.drawTrailer_frame]
  rfl

/-! ### The operation -/

/-- In a live session `RECEIVE` completes, whether or not receive is enabled (R201). -/
theorem writes_receive (hs : Live s) (frame : List Byte) (draw : Option Trailer) :
    Writes (.receive frame draw) s ((s.rxRun frame draw).2.rxExit (s.rxRun frame draw).1) := by
  have hframe := s.rxRun_frame frame draw
  have hexec : exec (.receive frame draw) s = s.perform (s.rxPass frame draw) := rfl
  rw [State.rxPass_eq] at hexec
  exact writes_of_busWrite hs hexec (by rw [hframe]; rfl) (by rw [hframe]; rfl)
    (by rw [hframe]; rfl)

theorem receive_next (ht : exec (.receive frame draw) s = .next t) :
    AfterUpdate s t ∧
      t = { (s.rxRun frame draw).2.rxExit (s.rxRun frame draw).1 with
            answer := .none, irqState := t.irqState, lines := t.lines
            setLineCalls := t.setLineCalls } :=
  (writes_receive (effect_of_exec ht).1 frame draw).eq_of_exec ht

/-- What a statement reads of the state after a `RECEIVE`: the parameters it began with, and what
the pass left of its cursor, memory, EIR and the log. -/
structure AfterReceive (s : State) (frame : List Byte) (draw : Option Trailer) (t : State) :
    Prop where
  params : t.params = s.params
  cursor : t.rxCursor = (s.rxRun frame draw).1
  mem : t.mem = (s.rxRun frame draw).2.mem
  eir : t.eir = (s.rxRun frame draw).2.eir
  log : t.log = (s.rxRun frame draw).2.log
  enabled : t.rxEnabled = ((s.rxRun frame draw).2.decodeDesc (s.rxRun frame draw).1).owned

theorem afterReceive_of_exec (ht : exec (.receive frame draw) s = .next t) :
    AfterReceive s frame draw t := by
  have hparams := congrArg State.params (s.rxRun_frame frame draw)
  rw [(receive_next ht).2]
  exact ⟨hparams, rfl, rfl, rfl, rfl, rfl⟩

theorem AfterReceive.readBytes (h : AfterReceive s frame draw t) (a : Word) (n : Nat) :
    t.readBytes a n = (s.rxRun frame draw).2.readBytes a n :=
  State.readBytes_congr a n fun _ _ => congrArg (Memory.get · _) h.mem

theorem AfterReceive.decodeDesc (h : AfterReceive s frame draw t) (a : Word) :
    t.decodeDesc a = (s.rxRun frame draw).2.decodeDesc a :=
  State.decodeDesc_of_mem_eq
    (h.params.trans (congrArg State.params (s.rxRun_frame frame draw)).symm) h.mem a

/-- The exit re-derives the flag from the slot at the new cursor (R212). -/
theorem AfterReceive.rxEnabled (h : AfterReceive s frame draw t) :
    t.rxEnabled = (t.decodeDesc t.rxCursor).owned := by
  rw [h.enabled, h.decodeDesc, h.cursor]

/-! ### What a pass adds (R206, R210) -/

theorem RxEnd.adds_events {n : Nat} {spans : List (Word × Nat)} {r : Word × State}
    (h : RxEnd n s spans r) : ∃ e, r.2.eir = s.eir ||| e ∧ e &&& ~~~0x03000000 = 0 := by
  cases h with
  | delivered filled log eir =>
    refine ⟨_, eir.trans (BitVec.or_assoc _ _ _), or_and_not_eq_zero (by decide) ?_⟩
    split <;> decide
  | lost stop log eir =>
    refine ⟨_, eir, ?_⟩
    split <;> decide
  | cut all log eir =>
    refine ⟨_, eir, ?_⟩
    split <;> decide

theorem RxEnd.adds_at_most_one_record {n : Nat} {spans : List (Word × Nat)} {r : Word × State}
    (h : RxEnd n s spans r) : r.2.log = s.log ∨ r.2.log = s.log ++ [.lostEndOfFrame r.1] := by
  cases h with
  | delivered filled log eir => exact .inl log
  | lost stop log eir => exact .inr log
  | cut all log eir => exact .inl log

/-- What `e` adds to `a` is among what `e` is among. -/
theorem or_and_not_and_not_eq_zero {e m : Word} (a : Word) (he : e &&& ~~~m = 0) :
    (a ||| e) &&& ~~~a &&& ~~~m = 0 := by
  rw [BitVec.and_assoc, ← BitVec.not_or]
  refine or_and_not_eq_zero (and_not_or_self _ _) ?_
  rw [BitVec.not_or, BitVec.and_comm (~~~a), ← BitVec.and_assoc, he]
  exact BitVec.zero_and

/-! ### A pass of no visit, and of one -/

theorem State.rxRun_of_not_owned (draw : Option Trailer) (frame : List Byte)
    (h : (s.decodeDesc s.rxCursor).owned = false) :
    s.rxRun frame draw =
      (s.rxCursor, (s.drawTrailer draw).2.note (.lostEndOfFrame s.rxCursor)) := by
  have ho : ((s.drawTrailer draw).2.decodeDesc s.rxCursor).owned = false := by
    rw [State.drawTrailer_frame]
    exact h
  exact State.rxLoop_of_not_owned 4294967296 _ (delivered_ne_nil _ _) ho

theorem rxFilled_eq (d : Desc) (n : Nat) (final : Bool) (err : Half) :
    rxFilled d n final err =
      { flags := if final then (d.flags &&& 0x7FFF) ||| 0x0800 ||| err else d.flags &&& 0x7FFF
        length := BitVec.ofNat 16 n
        buffer := d.buffer } := by
  cases final with
  | true =>
    have hswap : d.release.flags ||| err ||| 0x0800 = d.release.flags ||| 0x0800 ||| err := by
      ac_rfl
    exact congrArg (Desc.mk · _ _) hswap
  | false => rfl

theorem rxFilled_wrap (d : Desc) (n : Nat) (final : Bool) {err : Half}
    (herr : err.getLsbD 13 = false) : (rxFilled d n final err).wrap = d.wrap := by
  have hreleased : d.release.flags.getLsbD 13 = d.flags.getLsbD 13 := by
    rw [← Desc.wrap_eq_getLsbD, Desc.wrap_release, Desc.wrap_eq_getLsbD]
  rw [Desc.wrap_eq_getLsbD, Desc.wrap_eq_getLsbD, rxFilled]
  cases final with
  | true =>
    simp only [if_true, BitVec.getLsbD_or, hreleased, herr, Bool.or_false]
    exact Bool.or_false _
  | false => exact hreleased

/-- The advance reads the wrap bit the slot has before the visit. -/
theorem State.rxNext_eq (s : State) (addr : Word) (rest : List Byte) {err : Half}
    (herr : err.getLsbD 13 = false) :
    s.rxNext addr rest err = if (s.decodeDesc addr).wrap then s.erdsr else addr + 8 := by
  rw [State.rxNext, Desc.next, State.rxHanded, rxFilled_wrap _ _ _ herr]

/-- The visit that delivers all there is left. -/
theorem State.rxVisit_of_fits {rest : List Byte} (addr : Word) (err : Half)
    (h : rest.length ≤ s.bufferMax) :
    s.rxVisit addr rest err =
      ((s.writeBytes (s.decodeDesc addr).buffer rest).raise rxf).encodeDesc
        (rxFilled (s.decodeDesc addr) rest.length true err) addr := by
  have hdone := List.drop_eq_nil_of_le h
  rw [State.rxVisit_eq, State.rxEvent_of_fits hdone, State.rxHanded, hdone,
    List.take_of_length_le h, Nat.min_eq_left h]
  rfl

theorem State.rxRun_of_fits (tr : Trailer) (h : (s.decodeDesc s.rxCursor).owned = true)
    (hfits : min (frame.length + 4) 2032 ≤ s.bufferMax) :
    s.rxRun frame (some tr) =
      (if (s.decodeDesc s.rxCursor).wrap then s.erdsr else s.rxCursor + 8,
        ((s.writeBytes (s.decodeDesc s.rxCursor).buffer (delivered frame tr)).raise
          rxf).encodeDesc
            (rxFilled (s.decodeDesc s.rxCursor) (min (frame.length + 4) 2032) true
              (s.rxErrors frame)) s.rxCursor) := by
  have hlen := length_delivered frame tr
  have hrest := hlen.trans_le hfits
  have hloop := State.rxLoop_of_owned 4294967296 (s.rxErrors frame) (delivered_ne_nil frame tr) h
  rw [List.drop_eq_nil_of_le hrest, State.rxLoop_nil, State.rxVisit_of_fits _ _ hrest, hlen,
    State.rxNext_eq _ _ _ (s.rxErrors_no_wrap frame)] at hloop
  exact hloop

end Sys2Proof.Machine
end

section
/-! SUPPORT. A pass over empty slots in a row that overlap neither each other nor the chunks stored:
each takes its chunk of the stream, and the pass goes on from the slot after them (43_receive.md
R206 to R214). -/

namespace Sys2Proof.Machine

variable {s : State} {d : Desc} {ds : List Desc} {slot : Nat → Word} {rest : List Byte} {err : Half}

/-! ### Empty slots in a row -/

/-- How many of `len` bytes the `k`-th slot takes, at most `m` a slot (R207). -/
abbrev chunkLen (m len k : Nat) : Nat := min m (len - k * m)

/-- Empty slots in a row, each where the wrap bit of the one before puts it and reached before all
of `rest` is delivered; no two overlap, and each chunk overlaps no slot and no other chunk. -/
structure EmptyRow (s : State) (ds : List Desc) (slot : Nat → Word) (rest : List Byte) : Prop where
  reached : ∀ k < ds.length, k * s.bufferMax < rest.length
  decode : ∀ (k : Nat) (hk : k < ds.length), s.decodeDesc (slot k) = ds[k]
  owned : ∀ (k : Nat) (hk : k < ds.length), ds[k].owned = true
  next : ∀ (k : Nat) (hk : k < ds.length),
    slot (k + 1) = if ds[k].wrap then s.erdsr else slot k + 8
  slotsApart : ∀ k < ds.length, ∀ j < ds.length, j ≠ k →
    ∀ x, InSpan (slot k) 8 x → ¬ InSpan (slot j) 8 x
  chunksOffSlots : ∀ (k : Nat) (hk : k < ds.length), ∀ j < ds.length,
    ∀ x, InSpan ds[k].buffer (chunkLen s.bufferMax rest.length k) x → ¬ InSpan (slot j) 8 x
  chunksApart : ∀ (k : Nat) (hk : k < ds.length) (j : Nat) (hj : j < ds.length), j ≠ k →
    ∀ x, InSpan ds[k].buffer (chunkLen s.bufferMax rest.length k) x →
      ¬ InSpan ds[j].buffer (chunkLen s.bufferMax rest.length j) x

/-- The address is in none of the chunks and none of the slots of a row. -/
def OffRow (s : State) (ds : List Desc) (slot : Nat → Word) (rest : List Byte) (x : Word) : Prop :=
  ∀ (k : Nat) (hk : k < ds.length),
    ¬ InSpan ds[k].buffer (chunkLen s.bufferMax rest.length k) x ∧ ¬ InSpan (slot k) 8 x

theorem chunkLen_zero (m len : Nat) : chunkLen m len 0 = min len m := by
  rw [chunkLen, Nat.zero_mul, Nat.sub_zero, Nat.min_comm]

theorem chunkLen_drop (m k : Nat) (rest : List Byte) :
    chunkLen m (rest.drop m).length k = chunkLen m rest.length (k + 1) := by
  rw [chunkLen, chunkLen, List.length_drop, Nat.sub_sub, Nat.add_comm m, ← Nat.succ_mul]

theorem drop_drop_mul (m k : Nat) (rest : List Byte) :
    (rest.drop m).drop (k * m) = rest.drop ((k + 1) * m) := by
  rw [List.drop_drop, Nat.add_comm m, ← Nat.succ_mul]

/-! ### The first visit -/

theorem EmptyRow.decode_head (h : EmptyRow s (d :: ds) slot rest) : s.decodeDesc (slot 0) = d :=
  h.decode 0 (Nat.zero_lt_succ _)

theorem EmptyRow.ne_nil (h : EmptyRow s (d :: ds) slot rest) : rest ≠ [] :=
  List.length_pos_iff.mp ((Nat.zero_le _).trans_lt (h.reached 0 (Nat.zero_lt_succ _)))

theorem EmptyRow.rxLoop_cons (h : EmptyRow s (d :: ds) slot rest) (herr : err.getLsbD 13 = false)
    (n : Nat) :
    State.rxLoop (n + 1) (slot 0) rest err s =
      State.rxLoop n (slot 1) (rest.drop s.bufferMax) err (s.rxVisit (slot 0) rest err) := by
  have hnext := h.next 0 (Nat.zero_lt_succ _)
  have howned : (s.decodeDesc (slot 0)).owned = true :=
    h.decode_head ▸ h.owned 0 (Nat.zero_lt_succ _)
  rw [State.rxLoop_of_owned n err h.ne_nil howned, State.rxNext_eq _ _ _ herr, h.decode_head]
  exact congrArg (State.rxLoop n · _ err _) hnext.symm

theorem EmptyRow.readByte_visit_outside (h : EmptyRow s (d :: ds) slot rest) {x : Word}
    (hchunk : ¬ InSpan d.buffer (chunkLen s.bufferMax rest.length 0) x)
    (hslot : ¬ InSpan (slot 0) 8 x) : (s.rxVisit (slot 0) rest err).readByte x = s.readByte x := by
  refine State.readByte_rxVisit_outside ?_ hslot
  rwa [h.decode_head, ← chunkLen_zero]

/-- The first slot takes its chunk, and its write-back does not touch it. -/
theorem EmptyRow.readBytes_visit (h : EmptyRow s (d :: ds) slot rest) (hm : s.mem.wf = true)
    (hlen : rest.length ≤ 4294967296) :
    (s.rxVisit (slot 0) rest err).readBytes d.buffer (chunkLen s.bufferMax rest.length 0) =
      rest.take s.bufferMax := by
  have hchunk : (rest.take s.bufferMax).length = chunkLen s.bufferMax rest.length 0 := by
    rw [List.length_take, chunkLen_zero, Nat.min_comm]
  have hstored := State.readBytes_writeBytes_same hm d.buffer (bs := rest.take s.bufferMax)
    (hchunk.trans_le ((chunkLen_zero _ _).trans_le ((Nat.min_le_left _ _).trans hlen)))
  rw [hchunk] at hstored
  rw [State.rxVisit_eq, h.decode_head]
  refine (State.readBytes_congr _ _ fun i hi => ?_).trans hstored
  exact State.readByte_encodeDesc_outside _ _ _
    (h.chunksOffSlots 0 (Nat.zero_lt_succ _) 0 (Nat.zero_lt_succ _) _ (inSpan_add_ofNat _ hi))

/-- The visit of the first slot leaves the others as they are. -/
theorem EmptyRow.tail (h : EmptyRow s (d :: ds) slot rest) (err : Half) :
    EmptyRow (s.rxVisit (slot 0) rest err) ds (fun k => slot (k + 1)) (rest.drop s.bufferMax) where
  reached k hk := by
    have hnext := h.reached (k + 1) (Nat.succ_lt_succ hk)
    rw [Nat.succ_mul] at hnext
    rw [List.length_drop, State.rxVisit_bufferMax]
    exact Nat.lt_sub_of_add_lt hnext
  decode k hk := by
    have hk' : k + 1 < (d :: ds).length := Nat.succ_lt_succ hk
    have hsame : (s.rxVisit (slot 0) rest err).decodeDesc (slot (k + 1)) =
        s.decodeDesc (slot (k + 1)) :=
      State.decodeDesc_congr _ (s.rxVisit_params _ _ _) fun x hx =>
        h.readByte_visit_outside
          (fun hchunk => h.chunksOffSlots 0 (Nat.zero_lt_succ _) (k + 1) hk' x hchunk hx)
          (h.slotsApart (k + 1) hk' 0 (Nat.zero_lt_succ _) (Nat.succ_ne_zero k).symm x hx)
    exact hsame.trans (h.decode (k + 1) hk')
  owned k hk := h.owned (k + 1) (Nat.succ_lt_succ hk)
  next k hk := h.next (k + 1) (Nat.succ_lt_succ hk)
  slotsApart k hk j hj hne :=
    h.slotsApart (k + 1) (Nat.succ_lt_succ hk) (j + 1) (Nat.succ_lt_succ hj) (by omega)
  chunksOffSlots k hk j hj := by
    rw [State.rxVisit_bufferMax, chunkLen_drop]
    exact h.chunksOffSlots (k + 1) (Nat.succ_lt_succ hk) (j + 1) (Nat.succ_lt_succ hj)
  chunksApart k hk j hj hne := by
    rw [State.rxVisit_bufferMax, chunkLen_drop, chunkLen_drop]
    exact h.chunksApart (k + 1) (Nat.succ_lt_succ hk) (j + 1) (Nat.succ_lt_succ hj) (by omega)

theorem OffRow.tail {x : Word} (h : OffRow s (d :: ds) slot rest x) (err : Half) :
    OffRow (s.rxVisit (slot 0) rest err) ds (fun k => slot (k + 1)) (rest.drop s.bufferMax) x := by
  intro k hk
  rw [State.rxVisit_bufferMax, chunkLen_drop]
  exact h (k + 1) (Nat.succ_lt_succ hk)

/-- The first chunk is off the row of the later slots. -/
theorem EmptyRow.first_chunk_off_tail (h : EmptyRow s (d :: ds) slot rest) (err : Half) {x : Word}
    (hx : InSpan d.buffer (chunkLen s.bufferMax rest.length 0) x) :
    OffRow (s.rxVisit (slot 0) rest err) ds (fun k => slot (k + 1)) (rest.drop s.bufferMax) x := by
  intro k hk
  rw [State.rxVisit_bufferMax, chunkLen_drop]
  have hk' : k + 1 < (d :: ds).length := Nat.succ_lt_succ hk
  exact ⟨h.chunksApart 0 (Nat.zero_lt_succ _) (k + 1) hk' (Nat.succ_ne_zero k) x hx,
    h.chunksOffSlots 0 (Nat.zero_lt_succ _) (k + 1) hk' x hx⟩

/-- The first slot is off the row of the later slots. -/
theorem EmptyRow.first_slot_off_tail (h : EmptyRow s (d :: ds) slot rest) (err : Half) {x : Word}
    (hx : InSpan (slot 0) 8 x) :
    OffRow (s.rxVisit (slot 0) rest err) ds (fun k => slot (k + 1)) (rest.drop s.bufferMax) x := by
  intro k hk
  rw [State.rxVisit_bufferMax, chunkLen_drop]
  have hk' : k + 1 < (d :: ds).length := Nat.succ_lt_succ hk
  exact ⟨fun hchunk => h.chunksOffSlots (k + 1) hk' 0 (Nat.zero_lt_succ _) x hchunk hx,
    h.slotsApart 0 (Nat.zero_lt_succ _) (k + 1) hk' (Nat.succ_ne_zero k) x hx⟩

/-! ### The pass over them -/

/-- The state after the visits of the row. -/
def State.rxRow (s : State) (ds : List Desc) (slot : Nat → Word) (rest : List Byte) (err : Half) :
    State :=
  (State.rxLoop ds.length (slot 0) rest err s).2

theorem EmptyRow.rxRow_cons (h : EmptyRow s (d :: ds) slot rest) (herr : err.getLsbD 13 = false) :
    s.rxRow (d :: ds) slot rest err =
      (s.rxVisit (slot 0) rest err).rxRow ds (fun k => slot (k + 1)) (rest.drop s.bufferMax) err :=
  congrArg Prod.snd (h.rxLoop_cons herr ds.length)

/-- A pass with a larger bound goes on from the slot after the row. -/
theorem EmptyRow.rxLoop_add (h : EmptyRow s ds slot rest) (herr : err.getLsbD 13 = false)
    (n : Nat) :
    State.rxLoop (ds.length + n) (slot 0) rest err s =
      State.rxLoop n (slot ds.length) (rest.drop (ds.length * s.bufferMax)) err
        (s.rxRow ds slot rest err) := by
  induction ds generalizing s slot rest with
  | nil => simp [State.rxRow, State.rxLoop]
  | cons d ds ih =>
    have htail := ih (h.tail err)
    rw [State.rxVisit_bufferMax, drop_drop_mul, ← h.rxRow_cons herr] at htail
    rw [List.length_cons, Nat.add_right_comm, h.rxLoop_cons herr]
    exact htail

@[simp] theorem State.rxRow_params (s : State) (ds : List Desc) (slot : Nat → Word)
    (rest : List Byte) (err : Half) : (s.rxRow ds slot rest err).params = s.params :=
  (s.kept_rxLoop _ _ _ _).params

/-- Every slot of the row is empty when it is visited, so nothing is logged. -/
theorem EmptyRow.rxRow_log (h : EmptyRow s ds slot rest) (herr : err.getLsbD 13 = false) :
    (s.rxRow ds slot rest err).log = s.log := by
  induction ds generalizing s slot rest with
  | nil => rfl
  | cons d ds ih =>
    rw [h.rxRow_cons herr]
    exact ih (h.tail err)

theorem EmptyRow.readByte_rxRow (h : EmptyRow s ds slot rest) (herr : err.getLsbD 13 = false)
    {x : Word} (hx : OffRow s ds slot rest x) :
    (s.rxRow ds slot rest err).readByte x = s.readByte x := by
  induction ds generalizing s slot rest with
  | nil => rfl
  | cons d ds ih =>
    obtain ⟨hchunk, hslot⟩ := hx 0 (Nat.zero_lt_succ _)
    rw [h.rxRow_cons herr, ih (h.tail err) (hx.tail err), h.readByte_visit_outside hchunk hslot]

/-- Each buffer holds its chunk of the stream. -/
theorem EmptyRow.readBytes_rxRow (h : EmptyRow s ds slot rest) (herr : err.getLsbD 13 = false)
    (hm : s.mem.wf = true) (hlen : rest.length ≤ 4294967296) (k : Nat) (hk : k < ds.length) :
    (s.rxRow ds slot rest err).readBytes ds[k].buffer (chunkLen s.bufferMax rest.length k) =
      (rest.drop (k * s.bufferMax)).take s.bufferMax := by
  induction ds generalizing s slot rest k with
  | nil => exact absurd hk (Nat.not_lt_zero k)
  | cons d ds ih =>
    rw [h.rxRow_cons herr]
    cases k with
    | zero =>
      rw [Nat.zero_mul, List.drop_zero, ← h.readBytes_visit (err := err) hm hlen]
      exact State.readBytes_congr _ _ fun i hi =>
        (h.tail err).readByte_rxRow herr (h.first_chunk_off_tail err (inSpan_add_ofNat _ hi))
    | succ k =>
      have hshorter : (rest.drop s.bufferMax).length ≤ 4294967296 := by
        rw [List.length_drop]
        omega
      have hlater := ih (h.tail err) (State.wf_rxVisit hm _ _ _) hshorter k
        (Nat.lt_of_succ_lt_succ hk)
      rw [State.rxVisit_bufferMax, chunkLen_drop, drop_drop_mul] at hlater
      exact hlater

/-- Each slot is left with its descriptor handed back, final where nothing is left after it. -/
theorem EmptyRow.decodeDesc_rxRow (h : EmptyRow s ds slot rest) (herr : err.getLsbD 13 = false)
    (hm : s.mem.wf = true) (k : Nat) (hk : k < ds.length) :
    (s.rxRow ds slot rest err).decodeDesc (slot k) =
      rxFilled ds[k] (chunkLen s.bufferMax rest.length k)
        (rest.drop ((k + 1) * s.bufferMax)).isEmpty err := by
  induction ds generalizing s slot rest k with
  | nil => exact absurd hk (Nat.not_lt_zero k)
  | cons d ds ih =>
    rw [h.rxRow_cons herr]
    cases k with
    | zero =>
      have hvisit := State.decodeDesc_rxVisit hm (slot 0) rest err
      rw [State.rxHanded, h.decode_head, ← chunkLen_zero] at hvisit
      rw [Nat.zero_add, Nat.one_mul]
      exact (State.decodeDesc_congr _ (State.rxRow_params _ _ _ _ _) fun x hx =>
        (h.tail err).readByte_rxRow herr (h.first_slot_off_tail err hx)).trans hvisit
    | succ k =>
      have hlater := ih (h.tail err) (State.wf_rxVisit hm _ _ _) k (Nat.lt_of_succ_lt_succ hk)
      rw [State.rxVisit_bufferMax, chunkLen_drop, drop_drop_mul] at hlater
      exact hlater

/-- RXF is set where all is delivered, RXB where the first slot does not take it all. -/
theorem EmptyRow.rxRow_eir (h : EmptyRow s ds slot rest) (herr : err.getLsbD 13 = false)
    (hrest : rest ≠ []) :
    (s.rxRow ds slot rest err).eir =
      s.eir ||| (if rest.length ≤ ds.length * s.bufferMax then rxf else 0) |||
        (if 0 < ds.length ∧ s.bufferMax < rest.length then rxb else 0) := by
  induction ds generalizing s slot rest with
  | nil => simp [State.rxRow, State.rxLoop, hrest]
  | cons d ds ih =>
    have hvisit := s.rxVisit_eir (slot 0) rest err
    rw [h.rxRow_cons herr, List.length_cons, Nat.succ_mul]
    by_cases hlast : rest.drop s.bufferMax = []
    · have hfits := List.drop_eq_nil_iff.mp hlast
      rw [s.rxEvent_of_fits hlast] at hvisit
      rw [State.rxRow, hlast, State.rxLoop_nil, hvisit, if_pos (hfits.trans (Nat.le_add_left _ _)),
        if_neg fun hmore => hmore.2.not_ge hfits]
      exact BitVec.or_zero.symm
    · have hmore : s.bufferMax < rest.length := Nat.lt_of_not_le (hlast ∘ List.drop_eq_nil_of_le)
      have hlater : rxb ||| (if 0 < ds.length ∧ s.bufferMax < rest.length - s.bufferMax
          then rxb else 0) = rxb := by split <;> rfl
      rw [s.rxEvent_of_more hlast] at hvisit
      rw [ih (h.tail err) hlast, hvisit, State.rxVisit_bufferMax, List.length_drop,
        if_pos (⟨Nat.zero_lt_succ _, hmore⟩ : 0 < ds.length + 1 ∧ s.bufferMax < rest.length)]
      simp only [Nat.sub_le_iff_le_add]
      generalize (if rest.length ≤ ds.length * s.bufferMax + s.bufferMax then rxf else 0) = final
      generalize (if 0 < ds.length ∧ s.bufferMax < rest.length - s.bufferMax then rxb else 0) =
        later at hlater ⊢
      calc s.eir ||| rxb ||| final ||| later
          = s.eir ||| final ||| (rxb ||| later) := by ac_rfl
        _ = s.eir ||| final ||| rxb := by rw [hlater]

/-! ### The slot after them -/

/-- The slot at which the end of the frame is lost is one of the row, or not empty and off it. -/
theorem EmptyRow.stop_not_owned (h : EmptyRow s ds slot rest) (herr : err.getLsbD 13 = false)
    (hm : s.mem.wf = true) (hlost : ds.length * s.bufferMax < rest.length) {a : Word}
    (hstop : (∃ k < ds.length, a = slot k) ∨
      (s.decodeDesc a).owned = false ∧ ∀ x, InSpan a 8 x → OffRow s ds slot rest x) :
    ((s.rxRow ds slot rest err).decodeDesc a).owned = false := by
  rcases hstop with ⟨k, hk, rfl⟩ | ⟨hfull, hoff⟩
  · have hleft : rest.drop ((k + 1) * s.bufferMax) ≠ [] := by
      rw [Ne, List.drop_eq_nil_iff, Nat.not_le]
      exact (Nat.mul_le_mul_right _ hk).trans_lt hlost
    rw [h.decodeDesc_rxRow herr hm k hk, List.isEmpty_eq_false_iff.mpr hleft, rxFilled_not_owned]
  · rw [State.decodeDesc_congr a (s.rxRow_params _ _ _ _) fun x hx =>
      h.readByte_rxRow herr (hoff x hx)]
    exact hfull

/-- The pass ends after the row: where all is delivered, or else at a slot not empty. -/
theorem EmptyRow.rxLoop_eq (h : EmptyRow s ds slot rest) (herr : err.getLsbD 13 = false)
    (hlen : ds.length ≤ 4294967296)
    (hend : rest.length ≤ ds.length * s.bufferMax ∨
      ((s.rxRow ds slot rest err).decodeDesc (slot ds.length)).owned = false) :
    State.rxLoop Config.visitLimit (slot 0) rest err s =
      (slot ds.length,
        if rest.length ≤ ds.length * s.bufferMax then s.rxRow ds slot rest err
        else (s.rxRow ds slot rest err).note (.lostEndOfFrame (slot ds.length))) := by
  obtain ⟨n, hn⟩ : ∃ n, Config.visitLimit = ds.length + (n + 1) :=
    ⟨4294967296 - ds.length, by rw [Config.visitLimit]; omega⟩
  rw [hn, h.rxLoop_add herr]
  by_cases hall : rest.length ≤ ds.length * s.bufferMax
  · rw [List.drop_eq_nil_of_le hall, State.rxLoop_nil, if_pos hall]
  · rw [if_neg hall]
    exact State.rxLoop_of_not_owned n err (hall ∘ List.drop_eq_nil_iff.mp) (hend.resolve_left hall)

/-! ### The row in the words of its statement -/

/-- Only the last slot can be the final one. -/
theorem EmptyRow.final_iff (h : EmptyRow s ds slot rest) {k : Nat} (hk : k < ds.length) :
    (rest.drop ((k + 1) * s.bufferMax)).isEmpty = true ↔
      k + 1 = ds.length ∧ rest.length ≤ ds.length * s.bufferMax := by
  rw [List.isEmpty_iff, List.drop_eq_nil_iff]
  constructor
  case mp =>
    intro hdone
    have hlast : k + 1 = ds.length :=
      (Nat.succ_le_of_lt hk).eq_of_not_lt fun hmore => (h.reached _ hmore).not_ge hdone
    exact ⟨hlast, hlast ▸ hdone⟩
  case mpr =>
    rintro ⟨hlast, hall⟩
    rwa [hlast]

/-- RXF where all is delivered, and RXB where more than one slot is filled. -/
theorem EmptyRow.rxRow_eir_of_delivered (h : EmptyRow s ds slot rest)
    (herr : err.getLsbD 13 = false) (hrest : rest ≠ [])
    (hall : rest.length ≤ ds.length * s.bufferMax) :
    (s.rxRow ds slot rest err).eir = s.eir ||| rxf ||| (if 1 < ds.length then rxb else 0) := by
  have hmore : (0 < ds.length ∧ s.bufferMax < rest.length) ↔ 1 < ds.length := by
    constructor
    case mp =>
      rintro ⟨-, hlong⟩
      refine Nat.lt_of_not_le fun hone => hlong.not_ge (hall.trans ?_)
      exact (Nat.mul_le_mul_right _ hone).trans_eq (Nat.one_mul _)
    case mpr =>
      intro hmany
      have hlong := h.reached 1 hmany
      rw [Nat.one_mul] at hlong
      exact ⟨Nat.zero_lt_of_lt hmany, hlong⟩
  rw [h.rxRow_eir herr hrest, if_pos hall]
  simp only [hmore]

/-- RXB alone where the end of the frame is lost and a slot is filled. -/
theorem EmptyRow.rxRow_eir_of_lost (h : EmptyRow s ds slot rest) (herr : err.getLsbD 13 = false)
    (hlost : ds.length * s.bufferMax < rest.length) :
    (s.rxRow ds slot rest err).eir = s.eir ||| (if 0 < ds.length then rxb else 0) := by
  have hrest := List.length_pos_iff.mp ((Nat.zero_le _).trans_lt hlost)
  have hmore : (0 < ds.length ∧ s.bufferMax < rest.length) ↔ 0 < ds.length :=
    and_iff_left_of_imp fun hsome => (Nat.le_mul_of_pos_left _ hsome).trans_lt hlost
  rw [h.rxRow_eir herr hrest, if_neg hlost.not_ge]
  simp only [hmore]
  exact congrArg (· ||| _) BitVec.or_zero

/-- The pass of a `RECEIVE` whose trailer is supplied, over the row at the cursor. -/
theorem EmptyRow.rxRun_eq {frame : List Byte} {tr : Trailer}
    (h : EmptyRow s ds slot (delivered frame tr)) (hfirst : slot 0 = s.rxCursor)
    (hlen : ds.length ≤ 4294967296)
    (hend : (delivered frame tr).length ≤ ds.length * s.bufferMax ∨
      ((s.rxRow ds slot (delivered frame tr) (s.rxErrors frame)).decodeDesc
        (slot ds.length)).owned = false) :
    s.rxRun frame (some tr) =
      (slot ds.length,
        if (delivered frame tr).length ≤ ds.length * s.bufferMax then
          s.rxRow ds slot (delivered frame tr) (s.rxErrors frame)
        else (s.rxRow ds slot (delivered frame tr) (s.rxErrors frame)).note
          (.lostEndOfFrame (slot ds.length))) := by
  rw [← h.rxLoop_eq (s.rxErrors_no_wrap frame) hlen hend, hfirst]
  rfl

end Sys2Proof.Machine
end

section
/-! The statements about the receive engine (43_receive.md). -/

namespace Sys2Proof.Machine

/-- Settles O45: no pass is cut at its bound, so it has one of the two ends of R206 and R210. -/
theorem receiveEndsDeliveredOrLogged : Obligations.ReceiveEndsDeliveredOrLogged := by
  intro s t frame draw hm ht
  have hpass := afterReceive_of_exec ht
  refine ⟨?_, hpass.rxEnabled⟩
  rw [hpass.log, hpass.eir, hpass.decodeDesc, hpass.cursor]
  cases s.rxRun_end frame draw with
  | delivered _ log eir => exact .inl ⟨log, eir⟩
  | lost stop log eir => exact .inr ⟨log, stop, eir⟩
  | cut all => exact absurd all (length_receiveSpans_lt hm frame draw).ne

/-- Settles O46: the pass fills exactly the `N` slots, and the slot after them ends it where all is
delivered or it is not empty. -/
theorem receiveSplitsAFrame : Obligations.ReceiveSplitsAFrame := by
  intro s frame tr ds slot S m hs hm hmax hlen hfirst hS hslots hend
  obtain rfl : m = s.bufferMax := hmax
  obtain rfl : S = delivered frame tr := hS
  simp only [forall_and] at hslots
  obtain ⟨decode, owned, next, slotsApart, chunksOffSlots, chunksApart⟩ := hslots
  have reached : ∀ k < ds.length, k * s.bufferMax < (delivered frame tr).length := by
    intro k hk
    have hlast : (ds.length - 1) * s.bufferMax < (delivered frame tr).length :=
      hend.elim And.left fun hlost =>
        (Nat.mul_le_mul_right _ (Nat.sub_le _ _)).trans_lt hlost.1
    exact (Nat.mul_le_mul_right _ (Nat.le_sub_one_of_lt hk)).trans_lt hlast
  have hrow : EmptyRow s ds slot (delivered frame tr) :=
    { reached, decode, owned, next, slotsApart, chunksOffSlots
      chunksApart := fun k hk j hj hne x hx => chunksApart k hk j hj x hx hne }
  have herr := s.rxErrors_no_wrap frame
  have hstop : (delivered frame tr).length ≤ ds.length * s.bufferMax ∨
      ((s.rxRow ds slot (delivered frame tr) (s.rxErrors frame)).decodeDesc
        (slot ds.length)).owned = false := by
    rcases hend with ⟨-, hall⟩ | ⟨hlost, hafter⟩
    · exact .inl hall
    · refine .inr (hrow.stop_not_owned herr hm hlost (hafter.imp_right ?_))
      exact fun ⟨hfull, hoff⟩ => ⟨hfull, fun x hx k hk => (hoff k hk x hx).symm⟩
  have hrun := hrow.rxRun_eq hfirst hlen hstop
  obtain ⟨t, ht, -⟩ := writes_receive hs frame (some tr)
  have hpass := afterReceive_of_exec ht
  have hmem : t.mem = (s.rxRow ds slot (delivered frame tr) (s.rxErrors frame)).mem := by
    rw [hpass.mem, hrun]
    dsimp only
    split <;> rfl
  refine ⟨t, ht, fun k hk => ⟨?_, ?_⟩, ?_, ?_, hpass.rxEnabled⟩
  · have hcap : (delivered frame tr).length ≤ 4294967296 := by
      rw [length_delivered]
      omega
    rw [← hrow.readBytes_rxRow herr hm hcap k hk]
    exact State.readBytes_congr _ _ fun _ _ => congrArg (Memory.get · _) hmem
  · rw [State.decodeDesc_of_mem_eq (hpass.params.trans (s.rxRow_params _ _ _ _).symm) hmem,
      hrow.decodeDesc_rxRow herr hm k hk, rxFilled_eq]
    simp only [hrow.final_iff hk]
    rfl
  · rw [hpass.cursor, hrun]
  · rw [hpass.eir, hpass.log, hrun]
    by_cases hall : (delivered frame tr).length ≤ ds.length * s.bufferMax
    · simp only [if_pos hall]
      exact ⟨hrow.rxRow_eir_of_delivered herr (delivered_ne_nil _ _) hall, hrow.rxRow_log herr⟩
    · simp only [if_neg hall]
      exact ⟨hrow.rxRow_eir_of_lost herr (Nat.lt_of_not_le hall),
        congrArg (· ++ _) (hrow.rxRow_log herr)⟩

/-- Settles O42: the pass is the one visit that delivers the whole stream. -/
theorem receiveIntoOneSlot : Obligations.ReceiveIntoOneSlot := by
  rintro s frame tr d e u hs rfl hempty hfits rfl rfl
  have hwrites := writes_receive hs frame (some tr)
  rw [State.rxRun_of_fits tr hempty hfits, rxFilled_eq, if_pos rfl] at hwrites
  exact hwrites

/-- Settles O43: the pass makes no visit. -/
theorem receiveIntoNoSlot : Obligations.ReceiveIntoNoSlot := by
  intro s frame draw hs hfull
  rw [← Desc.owned_eq_getLsbD] at hfull
  have hwrites := writes_receive hs frame draw
  rw [State.rxRun_of_not_owned draw frame hfull] at hwrites
  have hexit : ((s.drawTrailer draw).2.note (.lostEndOfFrame s.rxCursor)).rxExit s.rxCursor =
      { s with log := s.log ++ [.lostEndOfFrame s.rxCursor], rxEnabled := false
               draws := if draw = none then s.draws + 1 else s.draws } := by
    rw [← hfull]
    cases draw <;> rfl
  rwa [hexit] at hwrites

/-- Settles O44: what the pass may add, and the spans it stores to. -/
theorem receiveChangesOnlyItsOwn : Obligations.ReceiveChangesOnlyItsOwn := by
  intro s t frame draw ht
  obtain ⟨hafter, heq⟩ := receive_next ht
  have hpass := afterReceive_of_exec ht
  have hend := s.rxRun_end frame draw
  obtain ⟨e, heir, he⟩ := hend.adds_events
  rw [← hpass.eir] at heir
  refine ⟨hafter, ?_, ?_, ?_, ?_, fun x hx => ?_⟩
  · rw [heq, s.rxRun_frame]
    rfl
  · rw [heir]
    exact and_not_or_self _ _
  · rw [heir]
    exact or_and_not_and_not_eq_zero _ he
  · rw [hpass.log, hpass.cursor]
    exact hend.adds_at_most_one_record
  · exact (congrArg (Memory.get · _) hpass.mem).trans (s.readByte_rxRun_outside frame draw hx)

/-- Settles O41: the draw is used as a supplied trailer is, and nothing else reads the count of
draws. -/
theorem receiveWithADrawnTrailer : Obligations.ReceiveWithADrawnTrailer := by
  intro s frame hs
  obtain ⟨t, ht, -⟩ := writes_receive hs frame none
  refine ⟨⟨t, ht⟩, ?_⟩
  have hdrawn := State.perform_live hs (s.rxPass frame none)
  have hgiven := State.perform_live (s := { s with draws := s.draws + 1 }) hs
    (State.rxPass { s with draws := s.draws + 1 } frame (some (Config.rxTrailer s.draws)))
  exact hdrawn.trans hgiven.symm

end Sys2Proof.Machine
end

section
/-! SUPPORT. The management bus by the frame: what the dispatch of each opcode leaves, for every frame;
that a management operation, an MMFR write and an MSCR write run the same dispatch; and the accesses
of the 32 PHY registers (44_mdio_phy.md R230 to R246). -/

namespace Sys2Proof.Machine

variable {s : State}

/-! ### The dispatch of a frame (R233 to R238) -/

theorem State.attached_iff {pa : BitVec 5} :
    s.attached pa = true ↔ s.params.phyAttached = true ∧ pa = s.params.phyAddr := by
  simp [State.attached]

section Frame

variable (s) (st : BitVec 2) (pa ra : BitVec 5) (ta : BitVec 2) (data : Half)

/-- A write request stores DATA in register RA of the PHY attached at PA, or nowhere (R234, R237). -/
theorem State.mdioDispatch_write_frame :
    State.mdioDispatch { s with mmfr := mmfrFrame st 1 pa ra ta data } =
      { s with mmfr := mmfrFrame st 1 pa ra ta data
               phy := if s.params.phyAttached = true ∧ pa = s.params.phyAddr then
                   (s.phyWrite ra data).phy else s.phy
               eir := s.eir ||| mii } := by
  rw [State.mdioDispatch_write]
  · rw [State.dispatchWrite, framePa_mmfrFrame, frameRa_mmfrFrame, frameData_mmfrFrame]
    simp only [State.attached_iff]
    split <;> rfl
  · exact frameOp_mmfrFrame ..

/-- A read request leaves its frame with the register's answer as DATA, or all ones (R235, R237). -/
theorem State.mdioDispatch_read_frame :
    State.mdioDispatch { s with mmfr := mmfrFrame st 2 pa ra ta data } =
      { s with mmfr := mmfrFrame st 2 pa ra ta
                 (if s.params.phyAttached = true ∧ pa = s.params.phyAddr then s.phyRead ra
                  else 0xFFFF)
               eir := s.eir ||| mii } := by
  rw [State.mdioDispatch_read]
  · rw [State.dispatchRead, mmfrFrame_replace_data, State.mdioAnswer, framePa_mmfrFrame,
      frameRa_mmfrFrame, State.phyRead_mmfr]
    simp only [State.attached_iff]
    rfl
  · exact frameOp_mmfrFrame ..

/-- A frame of opcode 0 or 3 is logged (R236, R237). -/
theorem State.mdioDispatch_invalid_frame {op : BitVec 2} (hop : op = 0 ∨ op = 3) :
    State.mdioDispatch { s with mmfr := mmfrFrame st op pa ra ta data } =
      { s with mmfr := mmfrFrame st op pa ra ta data
               log := s.log ++ [.mdioBadOpcode (mmfrFrame st op pa ra ta data)]
               eir := s.eir ||| mii } := by
  rw [State.mdioDispatch_invalid (by rwa [frameOp_mmfrFrame])]
  rfl

end Frame

/-! ### The operations that dispatch (R230, R231; log 10) -/

/-- The operation with the frame `v` as its request is the dispatch of `v`, with no divisor test and
no `UPDATE()` (log 10). -/
theorem exec_of_encode_mmfr {i : Instr} {v : Word} (h : encode i = .mmfr v) (s : State) :
    exec i s = s.perform ((State.mdioDispatch { s with mmfr := v }).reply .none) := by
  cases i with
  | mdioWrite st pa ra ta data =>
    cases h
    rw [State.mdioDispatch_write]
    · rfl
    · exact frameOp_mmfrFrame ..
  | mdioRead st pa ra ta data =>
    cases h
    rw [State.mdioDispatch_read]
    · rfl
    · exact frameOp_mmfrFrame ..
  | mdioInvalid0 st pa ra ta data =>
    cases h
    rw [State.mdioDispatch_invalid]
    · rfl
    · exact .inl (frameOp_mmfrFrame ..)
  | mdioInvalid3 st pa ra ta data =>
    cases h
    rw [State.mdioDispatch_invalid]
    · rfl
    · exact .inr (frameOp_mmfrFrame ..)
  | _ => cases h

/-- In a live session the operation of a frame completes, with the dispatch of that frame. -/
theorem exec_frame_live (hs : Live s) {i : Instr} {v : Word} (h : encode i = .mmfr v) :
    exec i s = .next ((State.mdioDispatch { s with mmfr := v }).reply .none) :=
  (exec_of_encode_mmfr h s).trans (State.perform_live hs _)

/-- Every frame decodes to an operation (30_encoding.md R85). -/
theorem exists_decode_mmfr (v : Word) : ∃ i, decode (.mmfr v) = .instr i := ⟨_, rfl⟩

/-- With the divisor 0 a write of MMFR stores the value and no more (R230). -/
theorem State.mmfrWrite_of_no_divisor (hdiv : s.mscr &&& s.params.mdioDivisorMask = 0) (v : Word) :
    s.mmfrWrite v = { s with mmfr := v } := if_neg (not_not_intro hdiv)

/-- A write of MSCR that takes the divisor from zero to non-zero is, behind the stored MSCR, a write
of MMFR with the value it holds (R231). -/
theorem State.mscrWrite_of_start {v : Word} (hbefore : s.mscr &&& s.params.mdioDivisorMask = 0)
    (hafter : v &&& 0x000000FE &&& s.params.mdioDivisorMask ≠ 0) :
    s.mscrWrite v = State.mmfrWrite { s with mscr := v &&& 0x000000FE } s.mmfr := by
  rw [State.mmfrWrite_of_divisor hafter]
  exact if_pos ⟨hbefore, hafter⟩

/-- Any other write of MSCR stores the masked value and no more (R231). -/
theorem State.mscrWrite_of_no_start {v : Word}
    (h : ¬ (s.mscr &&& s.params.mdioDivisorMask = 0 ∧
      v &&& 0x000000FE &&& s.params.mdioDivisorMask ≠ 0)) :
    s.mscrWrite v = { s with mscr := v &&& 0x000000FE } := if_neg h

/-- A dispatch leaves the interrupt side to the `UPDATE()` of the write that runs it. -/
theorem writes_of_mdioDispatch {i : Instr} (hs : Live s) (v : Word)
    (hexec : exec i s = s.busWrite (State.mdioDispatch { s with mmfr := v })) :
    Writes i s (State.mdioDispatch { s with mmfr := v }) := by
  have hframe := State.mdioDispatch_frame { s with mmfr := v }
  exact writes_of_busWrite hs hexec (by rw [hframe]) (by rw [hframe]) (by rw [hframe])

/-! ### The PHY registers (R239 to R246) -/

/-- All registers but four answer the stored value (R241, R246). -/
theorem State.phyRead_eq_stored (s : State) {ra : BitVec 5} (h1 : ra ≠ 1) (h5 : ra ≠ 5)
    (h17 : ra ≠ 17) (h18 : ra ≠ 18) : s.phyRead ra = s.phy[ra.toNat] := by
  unfold State.phyRead
  split
  case h_1 h => exact absurd (BitVec.eq_of_toNat_eq h) h1
  case h_2 h => exact absurd (BitVec.eq_of_toNat_eq h) h5
  case h_3 h => exact absurd (BitVec.eq_of_toNat_eq h) h17
  case h_4 h => exact absurd (BitVec.eq_of_toNat_eq h) h18
  case h_5 => rfl

/-- The reset bit of register 0 clears itself (R239). -/
theorem State.phyWrite_zero (s : State) (data : Half) :
    s.phyWrite 0 data = { s with phy := s.phy.set 0 (data &&& 0x7FFF) } := rfl

/-- Every other register stores the data as it is (R240). -/
theorem State.phyWrite_of_ne_zero (s : State) {ra : BitVec 5} (h : ra ≠ 0) (data : Half) :
    s.phyWrite ra data = { s with phy := s.phy.set ra.toNat data } := by
  rw [State.phyWrite, if_neg h]

/-- The arms of `exec` for the stored reads: each asks for its own register. -/
theorem map_exec_phyStoredReadOps :
    phyStoredReadOps.map (fun p s => exec p.2 s) =
      phyStoredReadOps.map fun p s => s.phyReadOp p.1 := rfl

/-- The arms of `exec` for the plain writes: each writes its own register. -/
theorem map_exec_phyPlainWriteOps :
    phyPlainWriteOps.map (fun p data s => exec (p.2 data) s) =
      phyPlainWriteOps.map fun p data s => s.phyWriteOp p.1 data := rfl

theorem exec_of_mem_phyStoredReadOps {p : BitVec 5 × Instr} (hp : p ∈ phyStoredReadOps) (s : State) :
    exec p.2 s = s.phyReadOp p.1 :=
  congrFun (List.map_inj_left.mp map_exec_phyStoredReadOps p hp) s

theorem exec_of_mem_phyPlainWriteOps {p : BitVec 5 × (Half → Instr)} (hp : p ∈ phyPlainWriteOps)
    (data : Half) (s : State) : exec (p.2 data) s = s.phyWriteOp p.1 data :=
  congrFun (congrFun (List.map_inj_left.mp map_exec_phyPlainWriteOps p hp) data) s

/-- No register of the stored reads is one of the four computed ones. -/
theorem phyStoredReadOps_not_computed :
    ∀ p ∈ phyStoredReadOps, p.1 ≠ 1 ∧ p.1 ≠ 5 ∧ p.1 ≠ 17 ∧ p.1 ≠ 18 := by decide

/-- Register 0 is not among the plain writes. -/
theorem phyPlainWriteOps_ne_zero : ∀ p ∈ phyPlainWriteOps, p.1 ≠ 0 :=
  (List.forall_mem_map (P := (· ≠ 0))).mp (by decide : ∀ ra ∈ phyPlainWriteOps.map Prod.fst, ra ≠ 0)

end Sys2Proof.Machine
end

section
/-! The statements about the management bus and the PHY (44_mdio_phy.md). -/

namespace Sys2Proof.Machine

/-- Settles O26: each of the four operations is the dispatch of its frame. -/
theorem managementFrames : Obligations.ManagementFrames := by
  intro s st pa ra ta data hs
  refine ⟨?write, ?read, ?invalid0, ?invalid3⟩
  case write => rw [exec_frame_live hs rfl, State.mdioDispatch_write_frame]; rfl
  case read => rw [exec_frame_live hs rfl, State.mdioDispatch_read_frame]; rfl
  case invalid0 =>
    rw [exec_frame_live hs rfl, State.mdioDispatch_invalid_frame s st pa ra ta data (.inl rfl)]
    rfl
  case invalid3 =>
    rw [exec_frame_live hs rfl, State.mdioDispatch_invalid_frame s st pa ra ta data (.inr rfl)]
    rfl

/-- Settles O27: with a divisor the write runs the dispatch that the operation of its frame is. -/
theorem mmfrWriteDispatches : Obligations.MmfrWriteDispatches := by
  intro s v hs
  refine ⟨fun hdiv => ?stored, fun hdiv => ?dispatched⟩
  case stored =>
    exact writes_of_busWrite hs (congrArg s.busWrite (State.mmfrWrite_of_no_divisor hdiv v))
  case dispatched =>
    obtain ⟨i, hi⟩ := exists_decode_mmfr v
    exact ⟨i, _, hi, exec_frame_live hs (encode_of_decodeMmfr hi),
      writes_of_mdioDispatch hs v (congrArg s.busWrite (State.mmfrWrite_of_divisor hdiv v))⟩

/-- Settles O28, by what the write does where it starts the clock and where it does not. -/
theorem mscrWriteDispatches : Obligations.MscrWriteDispatches := by
  intro s v hs
  refine ⟨fun ⟨hbefore, hafter⟩ => ⟨⟨_, State.perform_live hs _⟩, ?started⟩, fun hno => ?stored⟩
  case started => exact congrArg s.busWrite (State.mscrWrite_of_start hbefore hafter)
  case stored => exact writes_of_busWrite hs (congrArg s.busWrite (State.mscrWrite_of_no_start hno))

/-- Settles O32: the write request stores the data without bit 15 in register 0 and leaves divisor
and attachment, and the read request answers what is stored. -/
theorem phyResetBitReadsBackCleared : Obligations.PhyResetBitReadsBackCleared := by
  intro s st st' ta ta' data data' hs hdiv hphy
  obtain ⟨t, ht, hlive, hparams, hmscr, -, hstored⟩ :=
    exec_mmfrWr hs (mmfrFrame st 1 s.params.phyAddr 0 ta data)
  obtain ⟨u, hu, -, -, -, hanswer, -⟩ :=
    exec_mmfrWr hlive (mmfrFrame st' 2 s.params.phyAddr 0 ta' data')
  have hreg0 : t.phyRead 0 = data &&& 0x7FFF := by
    rw [t.phyRead_eq_stored (by decide) (by decide) (by decide) (by decide), hstored,
      State.mmfrWrite_write_phy hdiv hphy]
    exact Vector.getElem_set_self _
  have hread := State.mmfrWrite_read_mmfr (s := t) (by rwa [hmscr, hparams]) (by rwa [hparams])
    st' 0 ta' data'
  rw [hreg0, hparams] at hread
  exact ⟨t, u, ht, hu, hanswer.trans hread⟩

/-- Settles O29: a read answers its register and changes nothing; the four computed answers are
those of the model. -/
theorem phyRegisterReads : Obligations.PhyRegisterReads := by
  refine ⟨fun p hp s hs => ?stored, fun s hs => ?computed⟩
  case stored =>
    obtain ⟨h1, h5, h17, h18⟩ := phyStoredReadOps_not_computed p hp
    rw [exec_of_mem_phyStoredReadOps hp, ← s.phyRead_eq_stored h1 h5 h17 h18]
    exact State.perform_live hs _
  case computed =>
    exact ⟨State.perform_live hs (s.reply (.half s.phyStatus)),
      State.perform_live hs (s.reply (.half s.phyPartner)),
      State.perform_live hs (s.reply (.half s.phyDiag17)),
      State.perform_live hs (s.reply (.half s.phyDiag18))⟩

/-- Settles O30: register 0 by its own rule, the others by storage. -/
theorem phyRegisterWrites : Obligations.PhyRegisterWrites := by
  refine ⟨fun s data hs => ?reset, fun p hp s data hs => ?plain⟩
  case reset =>
    have hexec : exec (.phyWr0 data) s = s.phyWriteOp 0 data := rfl
    rw [hexec, State.phyWriteOp, s.phyWrite_zero]
    exact State.perform_live hs _
  case plain =>
    rw [exec_of_mem_phyPlainWriteOps hp, State.phyWriteOp,
      s.phyWrite_of_ne_zero (phyPlainWriteOps_ne_zero p hp)]
    exact State.perform_live hs _

/-- Settles O47: neither operation runs more than its one assignment. -/
theorem canReceiveAndSetLink : Obligations.CanReceiveAndSetLink := by
  intro s b hs
  exact ⟨State.perform_live hs (s.reply (.bool s.rxEnabled)),
    State.perform_live hs (State.reply { s with linkUp := b } .none)⟩

end Sys2Proof.Machine
end

section
/-! SUPPORT. What an operation does to EIR (10_state.md R23, 60_exceptions.md R277, R278): it raises
events among those the block sets, clears those a write of EIR names, or starts again from none. -/

namespace Sys2Proof.Machine

variable {s t u : State} {i : Instr}

/-! ### Sets of events -/

/-- Bits of a smaller mask are bits of a larger one. -/
theorem and_not_eq_zero_of_subset {e m n : Word} (he : e &&& ~~~m = 0) (hmn : m &&& ~~~n = 0) :
    e &&& ~~~n = 0 := by
  rw [← and_eq_self_of_and_not he, BitVec.and_assoc, hmn]
  exact BitVec.and_zero

/-- What a write-1-to-clear takes from `a` is among the bits written. -/
theorem and_not_and_not_and_not_eq_zero (a v : Word) : a &&& ~~~(a &&& ~~~v) &&& ~~~v = 0 := by
  rw [BitVec.and_assoc, BitVec.and_comm (~~~(a &&& ~~~v)), ← BitVec.and_assoc]
  exact BitVec.and_not_self _

/-! ### Operations that only raise -/

/-- EIR gains events the block sets, and loses none (60_exceptions.md R277). -/
def RaisesOnly (s t : State) : Prop := ∃ e, t.eir = s.eir ||| e ∧ e &&& ~~~settableEvents = 0

theorem RaisesOnly.of_eq (h : t.eir = s.eir) : RaisesOnly s t :=
  ⟨0, h.trans BitVec.or_zero.symm, BitVec.zero_and⟩

theorem RaisesOnly.raise (s : State) {e : Word} (he : e &&& ~~~settableEvents = 0) :
    RaisesOnly s (s.raise e) := ⟨e, rfl, he⟩

/-- What both branches only raise, a choice between them only raises. -/
theorem RaisesOnly.ite {c : Prop} [Decidable c] (ht : RaisesOnly s t) (hu : RaisesOnly s u) :
    RaisesOnly s (if c then t else u) := by
  split
  · exact ht
  · exact hu

/-- A dispatch raises MII (44_mdio_phy.md R237). -/
theorem State.raisesOnly_mdioDispatch (s : State) : RaisesOnly s s.mdioDispatch :=
  ⟨mii, s.mdioDispatch_eir, by decide⟩

theorem State.raisesOnly_mmfrWrite (s : State) (v : Word) : RaisesOnly s (s.mmfrWrite v) :=
  .ite (State.raisesOnly_mdioDispatch { s with mmfr := v }) (.of_eq rfl)

theorem State.raisesOnly_mscrWrite (s : State) (v : Word) : RaisesOnly s (s.mscrWrite v) :=
  .ite (State.raisesOnly_mdioDispatch { s with mscr := mscrStored v }) (.of_eq rfl)

/-- GTS raises GRA (40_register_file.md R121). -/
theorem State.raisesOnly_tcrWrite (s : State) (v : Word) : RaisesOnly s (s.tcrWrite v) :=
  .ite (.raise { s with tcr := v } (by decide)) (.of_eq rfl)

/-- A transmit pass raises TXB, TXF and BABT (42_transmit.md R183 to R185). -/
theorem State.raisesOnly_transmitRequest (s : State) (v : Word) :
    RaisesOnly s (s.transmitRequest v) := by
  obtain ⟨e, heir, he⟩ := (TxGrows.transmitRequest s v).eir
  exact ⟨e, heir, and_not_eq_zero_of_subset he (by decide)⟩

/-- A receive pass raises RXB and RXF (43_receive.md R210). -/
theorem State.raisesOnly_rxPass (s : State) (frame : List Byte) (draw : Option Trailer) :
    RaisesOnly s (s.rxPass frame draw) := by
  obtain ⟨e, heir, he⟩ := (s.rxRun_end frame draw).adds_events
  refine ⟨e, ?_, and_not_eq_zero_of_subset he (by decide)⟩
  rw [State.rxPass_eq, State.reply_update_frame]
  exact heir

/-! ### Every operation -/

/-- A software reset clears every event (70_reset_and_hazards.md R301). -/
theorem State.softReset_eir (s : State) : s.softReset.eir = 0 := by
  unfold State.softReset
  split <;> rfl

/-- What an operation can do to EIR: `i` in `s` leaves it at `eir`. -/
inductive EventEffect (s : State) (i : Instr) (eir : Word) : Prop
  | raised (e : Word) (heir : eir = s.eir ||| e) (he : e &&& ~~~settableEvents = 0)
  /-- write-1-to-clear (40_register_file.md R103) -/
  | cleared (v : Word) (hi : i = .eirWr v) (heir : eir = s.eir &&& ~~~v)
  /-- a write of ECR with bit 0, the software reset (R111) -/
  | reset (v : Word) (hi : i = .ecrWr v) (hv : v.getLsbD 0 = true) (heir : eir = 0)
  | constructed (p : Params) (hi : i = .construct p) (heir : eir = 0)

theorem RaisesOnly.eventEffect (h : RaisesOnly s t) : EventEffect s i t.eir := by
  obtain ⟨e, heir, he⟩ := h
  exact .raised e heir he

/-- A write of ECR leaves EIR alone, but for the software reset. -/
theorem State.eventEffect_ecrWrite (s : State) (v : Word) :
    EventEffect s (.ecrWr v) (s.ecrWrite v).eir := by
  have heir : (s.ecrWrite v).eir = (s.ecrStored v).eir := by
    rw [State.ecrWrite_eq]
    split <;> rfl
  by_cases hv : v.getLsbD 0 = true
  · rw [s.ecrStored_reset v hv, s.softReset_eir] at heir
    exact .reset v rfl hv heir
  · rw [s.ecrStored_value v hv] at heir
    have hsame : RaisesOnly s (s.ecrWrite v) := .of_eq heir
    exact hsame.eventEffect

theorem RegWrite.events (h : RegWrite s i u) : EventEffect s i u.eir := by
  cases h with
  | eir v => exact .cleared v rfl rfl
  | ecr v => exact s.eventEffect_ecrWrite v
  | tdar v => exact (s.raisesOnly_transmitRequest v).eventEffect
  | mmfr v => exact (s.raisesOnly_mmfrWrite v).eventEffect
  | mscr v => exact (s.raisesOnly_mscrWrite v).eventEffect
  | tcr v => exact (s.raisesOnly_tcrWrite v).eventEffect
  | rdar v => rw [s.rearm_frame]; exact (RaisesOnly.of_eq rfl).eventEffect
  | rcr v => rw [s.rcrWrite_frame]; exact (RaisesOnly.of_eq rfl).eventEffect
  | eimr | palr | paur | tfwr | rfsr | erdsr | etdsr | emrbr | gask0 | gask1 | logged | dropped =>
    exact (RaisesOnly.of_eq rfl).eventEffect

theorem Effect.events (h : Effect s i t) : EventEffect s i t.eir := by
  cases h with
  | writes hw => rw [State.reply_update_frame]; exact hw.events
  | manages frame _ =>
    have hraises := State.raisesOnly_mdioDispatch { s with mmfr := frame }
    exact RaisesOnly.eventEffect hraises
  | receives frame draw => exact (s.raisesOnly_rxPass frame draw).eventEffect
  | constructs p => exact .constructed p rfl rfl
  | answers | phyWrites | setsLink => exact (RaisesOnly.of_eq rfl).eventEffect

end Sys2Proof.Machine
end

section
/-! SUPPORT. The interrupt side of the state, the active set of the last `UPDATE()`, the lines and
the calls that drove them: which operations reach it at all, and what one `UPDATE()` does where no
event, or one, enters or leaves the active set (60_exceptions.md R279 to R281). -/

namespace Sys2Proof.Machine

variable {s t u : State}

/-- `t` has the interrupt side of `s`. -/
structure SameInterruptSide (s t : State) : Prop where
  irqState : t.irqState = s.irqState
  lines : t.lines = s.lines
  setLineCalls : t.setLineCalls = s.setLineCalls

/-! ### Who reaches it -/

/-- Only the `UPDATE()` at the end of a register write reaches the interrupt side (R280). -/
theorem RegWrite.sameInterruptSide {i : Instr} (h : RegWrite s i u) : SameInterruptSide s u := by
  cases h with
  | ecr v =>
    have hstored : SameInterruptSide s (s.ecrStored v) := by
      by_cases hv : v.getLsbD 0 = true
      · obtain ⟨-, -, -, -, hirq, hlines, hcalls, -⟩ := s.softReset_frame
        rw [s.ecrStored_reset v hv]
        exact ⟨hirq, hlines, hcalls⟩
      · rw [s.ecrStored_value v hv]
        exact ⟨rfl, rfl, rfl⟩
    rw [State.ecrWrite_eq]
    split
    · exact hstored
    · exact ⟨hstored.irqState, hstored.lines, hstored.setLineCalls⟩
  | rdar v => rw [s.rearm_frame]; exact ⟨rfl, rfl, rfl⟩
  | tdar v => rw [s.transmitRequest_frame]; exact ⟨rfl, rfl, rfl⟩
  | mmfr v => rw [s.mmfrWrite_frame]; exact ⟨rfl, rfl, rfl⟩
  | mscr v => rw [s.mscrWrite_frame]; exact ⟨rfl, rfl, rfl⟩
  | rcr v => rw [s.rcrWrite_frame]; exact ⟨rfl, rfl, rfl⟩
  | tcr v => rw [s.tcrWrite_frame]; exact ⟨rfl, rfl, rfl⟩
  | eir | eimr | palr | paur | tfwr | rfsr | erdsr | etdsr | emrbr | gask0 | gask1 | logged
  | dropped => exact ⟨rfl, rfl, rfl⟩

/-- What ran before the `UPDATE()` and left the interrupt side alone does not show in it. -/
theorem SameInterruptSide.afterUpdate (h : SameInterruptSide s u) (a : Answer) :
    AfterUpdate s (u.reply a).update := by
  have hupdate := (State.update_spec (u.reply a)).2
  unfold AfterUpdate at hupdate ⊢
  simpa [h.irqState, h.lines, h.setLineCalls] using hupdate

/-- A receive pass reaches the interrupt side by the `UPDATE()` at its end only (43_receive.md
R213). -/
theorem State.afterUpdate_rxPass (s : State) (frame : List Byte) (draw : Option Trailer) :
    AfterUpdate s (s.rxPass frame draw) := by
  have hrun : SameInterruptSide s (s.rxRun frame draw).2 := by
    rw [s.rxRun_frame]
    exact ⟨rfl, rfl, rfl⟩
  have hexit : SameInterruptSide s ((s.rxRun frame draw).2.rxExit (s.rxRun frame draw).1) :=
    ⟨hrun.irqState, hrun.lines, hrun.setLineCalls⟩
  rw [State.rxPass_eq]
  exact hexit.afterUpdate .none

/-- Every operation leaves the interrupt side alone or runs one `UPDATE()`, but for `CONSTRUCT`. -/
theorem Effect.interruptSide {i : Instr} (h : Effect s i t) :
    SameInterruptSide s t ∨ AfterUpdate s t ∨ ∃ p, i = .construct p := by
  cases h with
  | writes hw => exact .inr (.inl (hw.sameInterruptSide.afterUpdate .none))
  | receives frame draw => exact .inr (.inl (s.afterUpdate_rxPass frame draw))
  | constructs p => exact .inr (.inr ⟨p, rfl⟩)
  | manages frame _ => rw [State.mdioDispatch_frame]; exact .inl ⟨rfl, rfl, rfl⟩
  | answers | phyWrites | setsLink => exact .inl ⟨rfl, rfl, rfl⟩

/-! ### The edges of one `UPDATE()` -/

/-- With the active set as it was no line has an edge. -/
theorem AfterUpdate.sameInterruptSide (h : AfterUpdate s t) (hirq : t.irqState = s.irqState) :
    SameInterruptSide s t := by
  obtain ⟨hactive, hlines, hcalls⟩ := h
  have hedge (i : Fin 13) : levelOf ((t.eir &&& t.eimr) ^^^ s.irqState) i = false := by
    rw [← hactive, hirq, BitVec.xor_self, levelOf, BitVec.zero_and]
    rfl
  refine ⟨hirq, Vector.ext fun i hi => ?_, ?_⟩
  · simpa [hedge] using hlines ⟨i, hi⟩
  · simpa [hedge] using hcalls

/-- Each event has a line of its own (30_encoding.md R88). -/
theorem levelOf_lineMask (i j : Fin 13) : levelOf (lineMask i) j = decide (j = i) := by
  revert i j; decide

theorem filter_lineOrder_eq (i : Fin 13) : lineOrder.filter (fun j => decide (j = i)) = [i] := by
  revert i; decide

/-- An event that enters an active set it was not in is in the set after it. -/
theorem levelOf_of_entered {act irq : Word} {i : Fin 13} (hentered : act ^^^ irq = lineMask i)
    (hnew : irq &&& lineMask i = 0) : levelOf act i = true := by
  have hact : act = lineMask i ^^^ irq := by
    rw [← hentered, BitVec.xor_assoc, BitVec.xor_self, BitVec.xor_zero]
  have hmask : act &&& lineMask i = lineMask i := by
    rw [hact, xor_and_distrib, hnew, BitVec.and_self]
    exact BitVec.xor_zero
  have hself := levelOf_lineMask i i
  rw [levelOf, BitVec.and_self] at hself
  rw [levelOf, hmask, hself]
  exact decide_eq_true rfl

/-- Where one event enters the active set and nothing else changes, its line has the only edge. -/
theorem AfterUpdate.drives_entered {i : Fin 13} (h : AfterUpdate s t)
    (hentered : (t.eir &&& t.eimr) ^^^ s.irqState = lineMask i)
    (hnew : s.irqState &&& lineMask i = 0) :
    t.setLineCalls = s.setLineCalls ++ [(i, true)] ∧
      ∀ j : Fin 13, t.lines[j] = if j = i then true else s.lines[j] := by
  obtain ⟨-, hlines, hcalls⟩ := h
  have hhigh := levelOf_of_entered hentered hnew
  simp only [hentered, levelOf_lineMask, decide_eq_true_eq] at hlines hcalls
  constructor
  · rw [hcalls, filter_lineOrder_eq, List.map_singleton, hhigh]
  · intro j
    rw [hlines j]
    split
    case isTrue hj => rw [hj, hhigh]
    case isFalse => rfl

end Sys2Proof.Machine
end

section
/-! The statements about configuration errors, events and the interrupt lines (60_exceptions.md). -/

namespace Sys2Proof.Machine

/-- Settles O7: the decoder tests width and alignment before it looks the offset up, and a rejected
request ends the session. -/
theorem badAccessEndsTheSession : Obligations.BadAccessEndsTheSession := by
  intro s width cmd v rest hs hp hbad
  have hdecode : decode (.bus width cmd v) = .rejected (.badAccess (busOffset cmd)) := if_pos hbad
  exact step_of_rejected hs hp hdecode

/-- Settles O50: an operation that runs an `UPDATE()` drives the edges of the active set, and here
there are none. -/
theorem linesAreDrivenOnlyOnEdges : Obligations.LinesAreDrivenOnlyOnEdges := by
  intro i s t hexec hconstruct hirq
  obtain ⟨-, heff⟩ := effect_of_exec hexec
  have hsame : SameInterruptSide s t := by
    rcases heff.interruptSide with hsame | hafter | ⟨p, hi⟩
    · exact hsame
    · exact hafter.sameInterruptSide hirq
    · exact absurd hi (hconstruct p)
  exact ⟨hsame.setLineCalls, hsame.lines⟩

/-- Settles O51: the write stores the mask, and its `UPDATE()` finds one event entered. -/
theorem newEventDrivesExactlyItsLine : Obligations.NewEventDrivesExactlyItsLine := by
  intro s v i hs hentered hnew
  have hwrites : Writes (.eimrWr v) s { s with eimr := v } := writes_of_busWrite hs rfl
  obtain ⟨t, hexec, hafter, heq⟩ := hwrites
  have hactive : t.eir &&& t.eimr = s.eir &&& v := by rw [heq]
  exact ⟨t, hexec, hafter.drives_entered (by rwa [hactive]) hnew⟩

/-- Settles O52: of the four things an operation can do to EIR, three can clear an event. -/
theorem eventsAreClearedOnlyByWriteOneOrReset :
    Obligations.EventsAreClearedOnlyByWriteOneOrReset := by
  intro i s t hexec hcleared
  obtain ⟨-, heff⟩ := effect_of_exec hexec
  cases heff.events with
  | raised e heir _ => exact absurd (by rw [heir]; exact and_not_or_self _ _) hcleared
  | cleared v hi heir =>
    rw [heir]
    exact .inl ⟨v, hi, and_not_and_not_and_not_eq_zero _ _⟩
  | reset v hi hv _ => exact .inr (.inl ⟨v, hi, hv⟩)
  | constructed p hi _ => exact .inr (.inr ⟨p, hi⟩)

/-- Settles O53: of the four things an operation can do to EIR, one can set an event. -/
theorem neverSetEventsStayClear : Obligations.NeverSetEventsStayClear := by
  intro i s t hexec
  obtain ⟨-, heff⟩ := effect_of_exec hexec
  cases heff.events with
  | raised e heir he =>
    rw [heir]
    exact or_and_not_and_not_eq_zero _ he
  | cleared v _ heir =>
    rw [heir, and_and_not_eq_zero (BitVec.and_not_self _)]
    exact BitVec.zero_and
  | reset _ _ _ heir | constructed _ _ heir =>
    rw [heir]
    exact and_and_not_eq_zero BitVec.zero_and _

end Sys2Proof.Machine
end

section
/-! SUPPORT. The software reset as one update of the register file, and the `UPDATE()` after it: an
empty active set lowers the lines that are high, and drives no other
(70_reset_and_hazards.md R301, R303). -/

namespace Sys2Proof.Machine

variable {s t : State}

/-- The registers restored under both policies, and those that `full_soft_reset` adds to them. -/
theorem State.softReset_eq (s : State) :
    s.softReset =
      { s with
        eir := 0, eimr := 0, ecr := 0, mscr := 0, rcr := 0x05EE0001, tcr := 0, tfwr := 0
        rfsr := 0x00000500, rxEnabled := false
        mmfr := if s.params.fullSoftReset then 0 else s.mmfr
        erdsr := if s.params.fullSoftReset then 0 else s.erdsr
        etdsr := if s.params.fullSoftReset then 0 else s.etdsr
        emrbr := if s.params.fullSoftReset then 0 else s.emrbr
        gask0 := if s.params.fullSoftReset then 0 else s.gask0
        gask1 := if s.params.fullSoftReset then 0 else s.gask1
        txCursor := if s.params.fullSoftReset then 0 else s.txCursor
        rxCursor := if s.params.fullSoftReset then 0 else s.rxCursor } := by
  unfold State.softReset
  cases hpolicy : s.params.fullSoftReset with
  | true => rfl
  | false => rfl

/-- With bit 0 an ECR write is the software reset: it leaves ETHER_EN 0, but has disabled receive
already (40_register_file.md R111). -/
theorem State.ecrWrite_of_reset (s : State) {v : Word} (hv : v.getLsbD 0 = true) :
    s.ecrWrite v = s.softReset := by
  have hdisabled : { s.softReset with rxEnabled := false } = s.softReset := by
    rw [← s.softReset_rxEnabled]
  rw [State.ecrWrite_eq, s.ecrStored_reset v hv, hdisabled, ite_self]

theorem levelOf_zero (i : Fin 13) : levelOf 0 i = false := by
  simp [levelOf]

/-- Where the active set becomes empty, each line that is high has the only kind of edge there is:
where the lines follow the active set, the bits that leave it are the lines that are high. -/
theorem AfterUpdate.lowers_lines (h : AfterUpdate s t) (hfollow : LinesFollow s)
    (hempty : t.eir &&& t.eimr = 0) :
    t.irqState = 0 ∧ t.lines = Vector.replicate 13 false ∧
      t.setLineCalls = s.setLineCalls ++
        (lineOrder.filter (fun i => s.lines[i])).map (fun i => (i, false)) := by
  obtain ⟨hirq, hlines, hcalls⟩ := h
  have hedge (i : Fin 13) : levelOf (0 ^^^ s.irqState) i = s.lines[i] := by
    rw [hfollow i]
    exact congrArg (levelOf · i) BitVec.zero_xor
  simp only [hempty, hedge, levelOf_zero] at hirq hlines hcalls
  refine ⟨hirq, Vector.ext fun i hi => ?_, hcalls⟩
  have hlow : t.lines[i] = if s.lines[i] then false else s.lines[i] := hlines ⟨i, hi⟩
  rw [hlow, Vector.getElem_replicate]
  cases s.lines[i] with
  | true => rfl
  | false => rfl

end Sys2Proof.Machine
end

section
/-! The statements about construction and software reset (70_reset_and_hazards.md). -/

namespace Sys2Proof.Machine

/-- Settles O25: the write is the software reset, which leaves no event to be active, so the
`UPDATE()` after it lowers the lines that are high. -/
theorem ecrWriteWithReset : Obligations.EcrWriteWithReset := by
  intro s v hs hfollow hv
  have hexec : exec (.ecrWr v) s = s.busWrite s.softReset :=
    congrArg s.busWrite (s.ecrWrite_of_reset hv)
  rw [s.softReset_eq] at hexec
  obtain ⟨t, hnext, hafter, heq⟩ := writes_of_busWrite hs hexec
  have hempty : t.eir &&& t.eimr = 0 := by
    rw [heq]
    exact BitVec.zero_and
  obtain ⟨hirq, hlines, hcalls⟩ := hafter.lowers_lines hfollow hempty
  rw [hnext, heq, hirq, hlines, hcalls]

/-- Settles O48: `CONSTRUCT` completes in a live session, and its state is the one of R300. -/
theorem constructInitialises : Obligations.ConstructInitialises := by
  intro s p hs
  exact State.perform_live hs (s.construct p)

end Sys2Proof.Machine
end
